-- ==== Sys2Proof/Word.lean ====
section
/-! DEFINITION. The word types of the F8 and the four arithmetic flags as plain data. -/

namespace Sys2Proof

/-- A byte: the accumulator, a scratchpad register, a cell of main memory, a port value (R2, R41). -/
abbrev Byte := BitVec 8

/-- A 16-bit value: PC0, PC1, DC0, DC1 and every main-memory address (R2). -/
abbrev Word := BitVec 16

/-- The 6-bit number of a scratchpad register, and the contents of ISAR (R12, R14). -/
abbrev ScratchIndex := BitVec 6

/-- The four arithmetic status bits O, Z, C, S as an operation computes them (R20, R21). -/
structure Flags where
  /-- overflow, W bit 3 -/
  o : Bool
  /-- zero, W bit 2 -/
  z : Bool
  /-- carry, W bit 1 -/
  c : Bool
  /-- sign, W bit 0: the COMPLEMENT of the result's top bit -/
  s : Bool
deriving DecidableEq, Repr, Inhabited

end Sys2Proof
end

