-- ==== Sys2Proof/Machine/Bits.lean ====
section
/-! DEFINITION. Bit fields, byte order and extension, in the notation of R3's table: `X.hi`, `X.lo`, `hi ++ lo`, `v[hi:lo]`,
`zext`, `sext`. -/

namespace Sys2Proof.Machine

/-- `X.hi`, bits 15..8 of a 16-bit register. -/
def hiByte (x : Word) : Byte := x.extractLsb' 8 8

/-- `X.lo`, bits 7..0 of a 16-bit register. -/
def loByte (x : Word) : Byte := x.extractLsb' 0 8

/-- `hi ++ lo`: the upper byte stands first, in the operands of PI, JMP, DCI (R42) as in the pairs H, K, Q (R13). -/
def joinBytes (hi lo : Byte) : Word := hi ++ lo

/-- `sext_16(b)`: a displacement (R63) or the accumulator in ADC (R164) as a signed byte. -/
def sext16 (b : Byte) : Word := b.signExtend 16

/-- The upper half U of ISAR, bits 5..3 (R14). -/
def isarUpper (i : ScratchIndex) : BitVec 3 := i.extractLsb' 3 3

/-- The lower half L of ISAR, bits 2..0 (R14). -/
def isarLower (i : ScratchIndex) : BitVec 3 := i.extractLsb' 0 3

/-- `U ++ L` (R14). -/
def joinIsar (u l : BitVec 3) : ScratchIndex := u ++ l

end Sys2Proof.Machine
end

