-- ==== Sys2Proof/Config.lean ====
section
/-! DEFINITION. What the spec leaves to the platform (rule R2's open parameters) as plain data, and the values it leaves open
altogether as constants with no body: nothing can be proved about what a free value is. -/

namespace Sys2Proof

/-- What stands at a main-memory address (R51). -/
inductive MemKind where
  | ram
  | rom
  | absent
deriving DecidableEq, Repr

/-- A run of main-memory addresses, both ends included, of one kind: a row of MemMap (R51). -/
structure Region where
  first : Word
  last  : Word
  kind  : MemKind
deriving DecidableEq, Repr

/-- The parameter DecAdd (R165, D13): the F3850's function as the rule gives it, or one of any number of functions of the
two operands of which nothing is known. -/
inductive DecAddKind where
  | f3850
  | other (n : Nat)
deriving DecidableEq, Repr

/-- The open parameters of R2 that are fixed for one machine. They stand in State as one record that no step changes, so a
claim about every state is a claim about every value of the parameters (log 5). -/
structure Platform where
  /-- CI_WRITES_A: CI writes its result to A (R157, D11) -/
  ciWritesA : Bool
  /-- ADMIT_UNLISTED: opcodes 1F and 70..7F are INC and LIS (R210, R211, D28) -/
  admitUnlisted : Bool
  /-- DecAdd (R165, D13) -/
  decAdd : DecAddKind
  /-- MemMap as regions, the first that holds the address decides, an address in none is absent (R51, D22) -/
  memMap : List Region
deriving DecidableEq, Repr

/-- One access to the I/O space, as the run keeps it (R44, R47): an input instruction reads a port and gets a value, or an
output instruction writes one, `PortOut(p, v)`. -/
inductive PortEvent where
  | input (port value : Byte)
  | output (port value : Byte)
deriving DecidableEq, Repr

/-- FREE VALUE. The byte a ram or rom address holds at launch, fixed per address (R51, U6; log 2). -/
opaque Config.launchByte : Word → Byte

/-- FREE VALUE. What the n-th read of absent memory returns at an address (R51, U7; log 4). -/
opaque Config.absentByte : (n : Nat) → (addr : Word) → Byte

/-- FREE VALUE. The oracle PortRead: what the n-th port read of the run answers on a port, after the given port events (R2,
R47, U10; log 10). -/
opaque Config.portRead : (port : Byte) → (n : Nat) → (events : List PortEvent) → Byte

/-- FREE VALUE. What the output latch of a port holds before anything has been written to it (R28, R251; log 11). -/
opaque Config.launchLatch : (port : Byte) → Byte

/-- FREE VALUE. The n-th uninterpreted decimal addition (R165, D13, U14; log 8). -/
opaque Config.otherDecAdd : (n : Nat) → Byte → Byte → Byte × Flags

end Sys2Proof
end

