-- ==== Sys2Proof/Machine/Launch.lean ====
section
/-! DEFINITION. The values of the open parameters that State.reset starts with. Every claim is about every value of them. -/

namespace Sys2Proof.Machine

/-- The platform of State.reset. CI_WRITES_A as the source states it (policy P1; log 6), the unlisted instructions admitted
(log 7), the F3850's decimal addition (log 8), RAM at every address as the spec's sample programs have it (log 3). Each is a
DESIGN CHOICE. -/
def launchPlatform : Platform :=
  { ciWritesA := true
    admitUnlisted := true
    decAdd := .f3850
    memMap := [⟨0x0000, 0xFFFF, .ram⟩] }

end Sys2Proof.Machine
end

