-- ==== Sys2Proof/Machine/Memory.lean ====
section
/-! DEFINITION. Main memory as data: the bytes that are known, each at its address, in one canonical form. -/

namespace Sys2Proof.Machine

/-- Main memory (R40): the addresses with a known byte, rising. An address that is not listed holds its launch byte, which is
a free value (R51, U6; log 2), so no listed byte can equal it in the data. -/
abbrev Memory := List Host.Cell

/-- The known byte at an address, if one is listed. -/
def Memory.find (a : Nat) : Memory → Option Byte
  | [] => none
  | (x, b) :: m => if a = x then some b else Memory.find a m

/-- The memory with the byte `b` at `a`, every other address as before. -/
def Memory.put (a : Nat) (b : Byte) : Memory → Memory
  | [] => [(a, b)]
  | (x, c) :: m =>
    if a < x then (a, b) :: (x, c) :: m
    else if a = x then (a, b) :: m
    else (x, c) :: Memory.put a b m

/-- The listed addresses rise strictly, from `lo` on, and stay inside the 2^16 addresses (R40). -/
def Memory.risesFrom (lo : Nat) : Memory → Bool
  | [] => true
  | (a, _) :: m => decide (lo ≤ a) && decide (a < 65536) && Memory.risesFrom (a + 1) m

/-- The canonical form: strictly rising addresses, all of them 16-bit. What an unlisted address reads as is no byte of the
data, so no entry equals it. -/
def Memory.wf (m : Memory) : Bool := Memory.risesFrom 0 m

end Sys2Proof.Machine
end

