-- ==== Sys2Proof/Machine/State.lean ====
section
/-! DEFINITION. The state of the machine: everything the spec gives the CPU, the main memory, the I/O history, the pins the
environment drives and the open parameters, as plain data. The reasons a step can stop. The state right after reset. -/

namespace Sys2Proof.Machine

/-- The levels the environment holds on the CPU's input pins at a step boundary. -/
structure Pins where
  /-- EXTRST, pin 37: reset is asserted (R221, R250) -/
  extrst : Bool
  /-- INTREQ, pin 23: an interrupt is requested (R24, R222) -/
  intreq : Bool
  /-- IntVec: the interrupt handling address that comes with the request (R206, R224) -/
  intVec : Word
deriving DecidableEq, Repr

/-- The state of an F8 CPU, its memory and its environment (10_state.md, 20_memory.md). -/
structure State where
  /-- A, the accumulator (R11) -/
  a : Byte
  /-- ISAR (R14) -/
  isar : ScratchIndex
  /-- W, the status register: bit 0 S, 1 C, 2 Z, 3 O, 4 I = ICB (R15) -/
  w : BitVec 5
  /-- DC0, the data counter (R17) -/
  dc0 : Word
  /-- DC1, reachable only through XDC (R17) -/
  dc1 : Word
  /-- PC0, the program counter: the address of the next opcode byte (R18, R19) -/
  pc0 : Word
  /-- PC1, one return address (R23) -/
  pc1 : Word
  /-- the scratchpad r[0] .. r[63] (R12) -/
  scratch : Vector Byte 64
  /-- the hold-off latch: no interrupt at the next boundary (R24, R226) -/
  noint : Bool
  /-- main memory, the known bytes (R40, R51) -/
  mem : Memory
  /-- the events of the I/O space, port reads and port writes in the order they were made, oldest first (R44, R47); the output
  history is State.outputs -/
  portEvents : List PortEvent
  /-- the pins at the boundary the next step starts from -/
  pins : Pins
  /-- MODEL'S OWN: the pins at the boundaries after that, oldest first (R222; log 9) -/
  pinsAhead : List Pins
  /-- MODEL'S OWN: known answers of PortRead, oldest first; when none is left the answer is a free value (R47; log 10) -/
  portAnswers : List Byte
  /-- MODEL'S OWN: how many reads of absent memory there have been (U7; log 4) -/
  absentReads : Nat
  /-- the open parameters; no step changes them (R2; log 5) -/
  platform : Platform
deriving DecidableEq, Repr

/-- The reasons a step can fault: none. "The CPU raises no synchronous exception" (R220): no trap, no cause register, no
misaligned access, no fault on absent memory. A type without constructors says so; nobody raises it. -/
inductive Fault where
deriving DecidableEq, Repr

/-- The reasons the model gives a step no meaning. -/
inductive Refusal where
  /-- An instruction whose meaning is not written yet. Raised by exec's arms only; safe. -/
  | notModelled (mnemonic : String)
  /-- The byte at PC0 is an undefined opcode: one of the 14 values of R65, or 1F and 70..7F while ADMIT_UNLISTED is false.
  Raised by the fetch, and by INC and LIS when they are not admitted; "the model refuses" (R212, D19). Safe: nothing can be
  proved about what the chip does with the byte. -/
  | undefinedOpcode (b : Byte)
deriving DecidableEq, Repr

/-- The machine right after the power-on RESET sequence (R28, R207, R250): PC0 = 0, ICB = 0, noint set. The registers that
the spec leaves unspecified are 0, a DESIGN CHOICE (log 1); memory lists nothing (log 2); the pins are quiet (log 9). -/
def State.reset : State :=
  { a := 0
    isar := 0
    w := 0
    dc0 := 0
    dc1 := 0
    pc0 := 0x0000
    pc1 := 0
    scratch := Vector.replicate 64 0
    noint := true
    mem := []
    portEvents := []
    pins := { extrst := false, intreq := false, intVec := 0 }
    pinsAhead := []
    portAnswers := []
    absentReads := 0
    platform := launchPlatform }

end Sys2Proof.Machine
end

