-- ==== Sys2Proof/Machine/Flags.lean ====
section
/-! DEFINITION. The status register W and every flag computation the spec gives: AddFlags, LogicFlags, DecAdd. -/

namespace Sys2Proof.Machine

/-- W.S, bit 0 (R15). -/
def State.flagS (s : State) : Bool := s.w.getLsbD 0

/-- W.C, bit 1 (R15). -/
def State.flagC (s : State) : Bool := s.w.getLsbD 1

/-- W.Z, bit 2 (R15). -/
def State.flagZ (s : State) : Bool := s.w.getLsbD 2

/-- W.O, bit 3 (R15). -/
def State.flagO (s : State) : Bool := s.w.getLsbD 3

/-- W.I, bit 4: the interrupt control bit ICB, 1 permits interrupts (R15, R16). -/
def State.icb (s : State) : Bool := s.w.getLsbD 4

/-- The ICB pin (22) shows W.I to the outside (R24, R223). -/
def State.icbPin (s : State) : Bool := s.icb

/-- W from its fields, bit 4 first (R15). -/
def packStatus (icb : Bool) (f : Flags) : BitVec 5 :=
  (BitVec.ofBool icb ++ BitVec.ofBool f.o ++ BitVec.ofBool f.z ++ BitVec.ofBool f.c ++ BitVec.ofBool f.s : BitVec (1 + 1 + 1 + 1 + 1))

/-- The four arithmetic bits of W. -/
def State.flags (s : State) : Flags := { o := s.flagO, z := s.flagZ, c := s.flagC, s := s.flagS }

/-- "writes W.O, W.Z, W.C, W.S ... and leaves W.I unchanged" (R20, R21). -/
def State.setFlags (f : Flags) (s : State) : State := { s with w := packStatus s.icb f }

/-- `W.I <- b`; O, Z, C, S unchanged (R16, R170, R171). -/
def State.setIcb (b : Bool) (s : State) : State := { s with w := packStatus b s.flags }

/-- `AddFlags(x, y, cin)` (R20): the sum and the flags, step by step as the rule defines them. -/
def addFlags (x y : Byte) (cin : Bool) : Byte × Flags :=
  let t9 : BitVec 9 := x.setWidth 9 + y.setWidth 9 + (BitVec.ofBool cin).setWidth 9
  let res : Byte := t9.extractLsb' 0 8
  let c7 := t9.getLsbD 8
  let c6 := ((x.extractLsb' 0 7).setWidth 8 + (y.extractLsb' 0 7).setWidth 8 + (BitVec.ofBool cin).setWidth 8).getLsbD 7
  (res, { o := c7 ^^ c6, z := res == 0, c := c7, s := !res.getLsbD 7 })

/-- `LogicFlags(v)` (R21). -/
def logicFlags (v : Byte) : Flags := { o := false, z := v == 0, c := false, s := !v.getLsbD 7 }

/-- The F3850's decimal addition as R165 gives it: the binary sum and its flags, then 0xA added, without carry, to each digit
that produced no carry. -/
def decAddF3850 (x y : Byte) : Byte × Flags :=
  let sum := addFlags x y false
  let digitCarry := ((x.extractLsb' 0 4).setWidth 5 + (y.extractLsb' 0 4).setWidth 5).getLsbD 4
  let lo : BitVec 4 := if digitCarry then sum.1.extractLsb' 0 4 else sum.1.extractLsb' 0 4 + 0xA
  let hi : BitVec 4 := if sum.2.c then sum.1.extractLsb' 4 4 else sum.1.extractLsb' 4 4 + 0xA
  ((hi ++ lo : BitVec (4 + 4)), sum.2)

/-- The parameter DecAdd (R165, D13): a function of its two operands alone. -/
def decAdd (k : DecAddKind) (x y : Byte) : Byte × Flags :=
  match k with
  | .f3850 => decAddF3850 x y
  | .other n => Config.otherDecAdd n x y

end Sys2Proof.Machine
end

