-- ==== Sys2Proof/Machine/Ops.lean ====
section
/-! DEFINITION. The named operations over registers, main memory, ports and pins that the meanings are written with; taking an
interrupt or a reset, and the return from one. -/

namespace Sys2Proof.Machine

/-! ### Registers -/

/-- `A <- v`. -/
def State.setA (v : Byte) (s : State) : State := { s with a := v }

/-- `ISAR <- v`. -/
def State.setIsar (v : ScratchIndex) (s : State) : State := { s with isar := v }

/-- `W <- v`, all five bits (R128). -/
def State.setW (v : BitVec 5) (s : State) : State := { s with w := v }

/-- `DC0 <- v`. -/
def State.setDc0 (v : Word) (s : State) : State := { s with dc0 := v }

/-- `DC1 <- v`. -/
def State.setDc1 (v : Word) (s : State) : State := { s with dc1 := v }

/-- `PC0 <- v`. -/
def State.setPc0 (v : Word) (s : State) : State := { s with pc0 := v }

/-- `PC1 <- v`. -/
def State.setPc1 (v : Word) (s : State) : State := { s with pc1 := v }

/-- `noint <- v` (R226). -/
def State.setNoint (v : Bool) (s : State) : State := { s with noint := v }

/-- `r[i]` (R12). -/
def State.reg (s : State) (i : ScratchIndex) : Byte := s.scratch[i.toNat]'i.isLt

/-- `r[i] <- v` (R12). -/
def State.setReg (i : ScratchIndex) (v : Byte) (s : State) : State := { s with scratch := s.scratch.set i.toNat v i.isLt }

/-! ### Main memory -/

/-- A region holds an address (R51). -/
def regionHolds (g : Region) (addr : Word) : Bool := g.first.toNat ≤ addr.toNat && addr.toNat ≤ g.last.toNat

/-- `MemMap(addr)`: the first region that holds the address; absent where MemMap places nothing (R51, U7). -/
def mapKind : List Region → Word → MemKind
  | [], _ => .absent
  | g :: gs, addr => if regionHolds g addr then g.kind else mapKind gs addr

/-- What stands at an address of this machine. -/
def State.kindAt (s : State) (addr : Word) : MemKind := mapKind s.platform.memMap addr

/-- The byte main memory holds at an address: the known one, or the launch byte, a free value (R51, U6; log 2). -/
def State.byteAt (s : State) (addr : Word) : Byte := (s.mem.find addr.toNat).getD (Config.launchByte addr)

/-- `MemRead(addr, 1)` (R41, R51): ram and rom give the byte held; absent memory gives a fresh draw. -/
def State.memRead (addr : Word) (s : State) : Byte × State :=
  match s.kindAt addr with
  | .ram | .rom => (s.byteAt addr, s)
  | .absent => (Config.absentByte s.absentReads addr, { s with absentReads := s.absentReads + 1 })

/-- Main memory with a byte at an address, whatever stands there: how a program is loaded. -/
def State.poke (addr : Word) (v : Byte) (s : State) : State := { s with mem := s.mem.put addr.toNat v }

/-- `MemWrite(addr, 1, v)` (R41, R51): only ram is changed. -/
def State.memWrite (addr : Word) (v : Byte) (s : State) : State :=
  match s.kindAt addr with
  | .ram => s.poke addr v
  | .rom | .absent => s

/-! ### I/O ports -/

/-- The port and value of a read. -/
def PortEvent.read? : PortEvent → Option (Byte × Byte)
  | .input p v => some (p, v)
  | .output _ _ => none

/-- The port and value of a write. -/
def PortEvent.written? : PortEvent → Option (Byte × Byte)
  | .input _ _ => none
  | .output p v => some (p, v)

/-- The port reads of the run and what each answered, as (p, v), oldest first (R44, R47). -/
def State.inputs (s : State) : List (Byte × Byte) := s.portEvents.filterMap PortEvent.read?

/-- The run's output history: its PortOut(p, v) events as (p, v), oldest first (R47). -/
def State.outputs (s : State) : List (Byte × Byte) := s.portEvents.filterMap PortEvent.written?

/-- How many port reads there have been: the n of `PortRead(port, n)` (U10). -/
def State.portReads (s : State) : Nat := s.inputs.length

/-- An event of the I/O space is kept (R44, R47). -/
def State.recordPort (e : PortEvent) (s : State) : State := { s with portEvents := s.portEvents ++ [e] }

/-- What the environment answers when a port is read: the oldest known answer or a free value (R47; log 10). -/
def State.portAnswer (p : Byte) (s : State) : Byte :=
  match s.portAnswers with
  | v :: _ => v
  | [] => Config.portRead p s.portReads s.portEvents

/-- `PortIn(p)` (R44, R47): the environment's answer is taken, and the read is kept as an event. -/
def State.portIn (p : Byte) (s : State) : Byte × State :=
  let v := s.portAnswer p
  (v, ({ s with portAnswers := s.portAnswers.tail }).recordPort (.input p v))

/-- `PortOut(p, v)` (R44, R47): the write is kept as an event of the run's output history. -/
def State.portOut (p v : Byte) (s : State) : State := s.recordPort (.output p v)

/-- The last value a history wrote to a port, or the one given. -/
def lastWritten (p : Byte) (init : Byte) : List (Byte × Byte) → Byte
  | [] => init
  | (q, v) :: h => lastWritten p (if q = p then v else init) h

/-- The output latch of a port (R28, R251): the last value written to it, before that a free value. No instruction reads it
back (R47). -/
def State.portLatch (s : State) (p : Byte) : Byte := lastWritten p (Config.launchLatch p) s.outputs

/-! ### The end of an instruction: PC0 and the hold-off latch -/

/-- `PC0 <- a +_16 n` (R19). -/
def State.nextPc (n : Word) (s : State) : State := s.setPc0 (s.pc0 + n)

/-- An untagged instruction of n bytes that does not transfer control ends so (R19, R226). -/
def State.advance (n : Word) (s : State) : State := (s.nextPc n).setNoint false

/-- A tagged instruction of n bytes that does not transfer control ends so (R19, R226). -/
def State.advanceHeld (n : Word) (s : State) : State := (s.nextPc n).setNoint true

/-- A tagged instruction that transfers control ends so (R226). -/
def State.jumpHeld (target : Word) (s : State) : State := (s.setPc0 target).setNoint true

/-- The target of a relative branch: the displacement is added to the address of the displacement byte (R63). -/
def State.branchTarget (s : State) (dd : Byte) : Word := s.pc0 + 1 + sext16 dd

/-- A conditional relative branch of two bytes, untagged (R174, R187, R188). -/
def State.branch (taken : Bool) (dd : Byte) (s : State) : State :=
  (s.setPc0 (if taken then s.branchTarget dd else s.pc0 + 2)).setNoint false

/-! ### INTRPT, RESET and the return -/

/-- What INTRPT and RESET share (R206, R207, R228): PC1 takes the whole old PC0, PC0 the address control goes to, ICB is
cleared, the hold-off latch set. Nothing else is saved or changed. -/
def State.enter (target : Word) (s : State) : State :=
  (((s.setPc1 s.pc0).setPc0 target).setIcb false).setNoint true

/-- The INTRPT sequence, to the address the environment supplies with the request (R206, R224). -/
def State.takeInterrupt (s : State) : State := s.enter s.pins.intVec

/-- The RESET sequence (R207, R250). -/
def State.takeReset (s : State) : State := s.enter 0x0000

/-- "if intreq and W.I == 1 and not noint" (R221). -/
def State.interruptDue (s : State) : Bool := s.pins.intreq && s.icb && !s.noint

/-- The return from a subroutine and from a handler: `PC0 <- PC1`, and nothing else is restored (R181, R229). -/
def State.returnToPc1 (s : State) : State := s.jumpHeld s.pc1

/-! ### The environment between two steps -/

/-- The environment sets the pins for the next boundary (R222, R250): the next levels ahead, or, where none are listed, the
levels it holds (log 9). -/
def State.nextPins (s : State) : State :=
  match s.pinsAhead with
  | [] => s
  | p :: ps => { s with pins := p, pinsAhead := ps }

/-- A function of the next state, where there is one. -/
def onNext (f : State → State) : Host.Outcome State Fault Refusal → Host.Outcome State Fault Refusal
  | .next s => .next (f s)
  | .fault r => .fault r
  | .refused r => .refused r

/-! ### Placing bytes to be fetched, from outside the machine -/

/-- A byte placed at an address so that a fetch there reads it: where nothing stands, one byte of ram is put (log 13). -/
def State.placeByte (addr : Word) (v : Byte) (s : State) : State :=
  let s := s.poke addr v
  match s.kindAt addr with
  | .ram | .rom => s
  | .absent => { s with platform := { s.platform with memMap := ⟨addr, addr, .ram⟩ :: s.platform.memMap } }

/-- The bytes placed from an address on, wrapping (R19). -/
def State.placeBytes : Word → List Byte → State → State
  | _, [], s => s
  | addr, b :: bs, s => State.placeBytes (addr + 1) bs (s.placeByte addr b)

/-- No reset and no interrupt request at the boundary. -/
def State.quietPins (s : State) : State := { s with pins := { s.pins with extrst := false, intreq := false } }

end Sys2Proof.Machine
end

