-- ==== Sys2Proof/Syntax.lean ====
section
/-! DEFINITION. The instructions: one constructor for each row of spec/opcode_table.json, in the table's order. -/

namespace Sys2Proof

/-- The scratchpad operand `r` (R27): field values 0..11 name the register, 12, 13 and 14 go through ISAR. The field value 15
is no operand and has no constructor. -/
inductive ScratchOperand where
  /-- field 0..11: r[0] .. r[11] -/
  | direct (n : Fin 12)
  /-- field 12, assembler operand S: r[ISAR] -/
  | isar
  /-- field 13, assembler operand I: r[ISAR], then ISAR's lower half + 1 -/
  | isarInc
  /-- field 14, assembler operand D: r[ISAR], then ISAR's lower half - 1 -/
  | isarDec
deriving DecidableEq, Repr

/-- An instruction of the F8 (R64, R69). Operands are as R62 and R63 assemble them. -/
inductive Instr where
  /-- LR A,KU (R100) -/
  | lrAKu
  /-- LR A,KL (R101) -/
  | lrAKl
  /-- LR A,QU (R102) -/
  | lrAQu
  /-- LR A,QL (R103) -/
  | lrAQl
  /-- LR KU,A (R104) -/
  | lrKuA
  /-- LR KL,A (R105) -/
  | lrKlA
  /-- LR QU,A (R106) -/
  | lrQuA
  /-- LR QL,A (R107) -/
  | lrQlA
  /-- LR K,P (R120) -/
  | lrKP
  /-- LR P,K (R121) -/
  | lrPK
  /-- LR A,IS (R108) -/
  | lrAIs
  /-- LR IS,A (R109) -/
  | lrIsA
  /-- PK (R122) -/
  | pk
  /-- LR P0,Q (R123) -/
  | lrP0Q
  /-- LR Q,DC (R126) -/
  | lrQDc
  /-- LR DC,Q (R127) -/
  | lrDcQ
  /-- LR DC,H (R125) -/
  | lrDcH
  /-- LR H,DC (R124) -/
  | lrHDc
  /-- SR 1 (R140) -/
  | sr1
  /-- SL 1 (R141) -/
  | sl1
  /-- SR 4 (R142) -/
  | sr4
  /-- SL 4 (R143) -/
  | sl4
  /-- LM (R112) -/
  | lm
  /-- ST (R113) -/
  | st
  /-- COM (R150) -/
  | com
  /-- LNK (R151) -/
  | lnk
  /-- DI (R170) -/
  | di
  /-- EI (R171) -/
  | ei
  /-- POP (R181) -/
  | pop
  /-- LR W,J (R128) -/
  | lrWJ
  /-- LR J,W (R129) -/
  | lrJW
  /-- INC, only under ADMIT_UNLISTED (R210) -/
  | inc
  /-- LI aa (R152) -/
  | li (aa : Byte)
  /-- NI aa (R153) -/
  | ni (aa : Byte)
  /-- OI aa (R154) -/
  | oi (aa : Byte)
  /-- XI aa (R155) -/
  | xi (aa : Byte)
  /-- AI aa (R156) -/
  | ai (aa : Byte)
  /-- CI aa (R157) -/
  | ci (aa : Byte)
  /-- IN PP (R195) -/
  | inPort (pp : Byte)
  /-- OUT PP (R196) -/
  | outPort (pp : Byte)
  /-- PI iijj (R180) -/
  | pi (iijj : Word)
  /-- JMP iijj (R185) -/
  | jmp (iijj : Word)
  /-- DCI iijj (R186) -/
  | dci (iijj : Word)
  /-- NOP (R205) -/
  | nop
  /-- XDC (R130) -/
  | xdc
  /-- DS r (R131) -/
  | ds (r : ScratchOperand)
  /-- LR A,r (R110) -/
  | lrAR (r : ScratchOperand)
  /-- LR r,A (R111) -/
  | lrRA (r : ScratchOperand)
  /-- LISU e (R172) -/
  | lisu (e : BitVec 3)
  /-- LISL e (R173) -/
  | lisl (e : BitVec 3)
  /-- LIS n, only under ADMIT_UNLISTED (R211) -/
  | lis (n : BitVec 4)
  /-- BT e,ii (R174) -/
  | bt (e : BitVec 3) (ii : Byte)
  /-- AM (R158) -/
  | am
  /-- AMD (R159) -/
  | amd
  /-- NM (R160) -/
  | nm
  /-- OM (R161) -/
  | om
  /-- XM (R162) -/
  | xm
  /-- CM (R163) -/
  | cm
  /-- ADC (R164) -/
  | adc
  /-- BR7 ii (R187) -/
  | br7 (ii : Byte)
  /-- BR t,ii (R188) -/
  | brT (t : BitVec 4) (ii : Byte)
  /-- INS 0|1: the port is the opcode's bit 0 (R197) -/
  | ins01 (p : BitVec 1)
  /-- INS n, n = 4..15 (R198) -/
  | insN (n : BitVec 4)
  /-- OUTS 0|1: the port is the opcode's bit 0 (R199) -/
  | outs01 (p : BitVec 1)
  /-- OUTS n, n = 4..15 (R200) -/
  | outsN (n : BitVec 4)
  /-- AS r (R114) -/
  | asR (r : ScratchOperand)
  /-- ASD r (R115) -/
  | asdR (r : ScratchOperand)
  /-- XS r (R117) -/
  | xsR (r : ScratchOperand)
  /-- NS r (R116) -/
  | nsR (r : ScratchOperand)
deriving DecidableEq, Repr

end Sys2Proof
end

