-- ==== Sys2Proof/Machine/Operands.lean ====
section
/-! DEFINITION. Every operand form: the scratchpad operand r, the named registers and pairs, the memory byte at DC0, the port
numbers; and the ways a result is written back. -/

namespace Sys2Proof.Machine

/-! ### Scratchpad operands -/

/-- `ScratchRef(f)` (R27): the register the operand selects, and the state after its effect on ISAR. The index is ISAR before
the change; only the lower half changes, modulo 8. -/
def State.scratchRef (r : ScratchOperand) (s : State) : ScratchIndex × State :=
  match r with
  | .direct n => (BitVec.ofNat 6 n.val, s)
  | .isar => (s.isar, s)
  | .isarInc => (s.isar, s.setIsar (joinIsar (isarUpper s.isar) (isarLower s.isar + 1)))
  | .isarDec => (s.isar, s.setIsar (joinIsar (isarUpper s.isar) (isarLower s.isar + 7)))

/-- The value of a scratchpad operand, and the state after ScratchRef's effect. -/
def State.scratchOperand (r : ScratchOperand) (s : State) : Byte × State :=
  let p := s.scratchRef r
  (p.2.reg p.1, p.2)

/-- J, scratchpad register 9 (R13). -/
def regJ : ScratchIndex := 9
/-- HU, scratchpad register 10 (R13). -/
def regHU : ScratchIndex := 10
/-- HL, scratchpad register 11 (R13). -/
def regHL : ScratchIndex := 11
/-- KU, scratchpad register 12 (R13). -/
def regKU : ScratchIndex := 12
/-- KL, scratchpad register 13 (R13). -/
def regKL : ScratchIndex := 13
/-- QU, scratchpad register 14 (R13). -/
def regQU : ScratchIndex := 14
/-- QL, scratchpad register 15 (R13). -/
def regQL : ScratchIndex := 15

/-- A 16-bit pair, upper byte in the lower-numbered register (R13). -/
def State.pair (s : State) (u l : ScratchIndex) : Word := joinBytes (s.reg u) (s.reg l)

/-- A 16-bit value into a pair (R13). -/
def State.setPair (u l : ScratchIndex) (x : Word) (s : State) : State := (s.setReg u (hiByte x)).setReg l (loByte x)

/-- H = r[10] ++ r[11] (R13). -/
def State.pairH (s : State) : Word := s.pair regHU regHL
/-- K = r[12] ++ r[13] (R13). -/
def State.pairK (s : State) : Word := s.pair regKU regKL
/-- Q = r[14] ++ r[15] (R13). -/
def State.pairQ (s : State) : Word := s.pair regQU regQL

/-! ### The memory operand -/

/-- `m = MemRead(DC0, 1)` and then `DC0 <- DC0 +_16 1` (R46, R158 to R163, R112). -/
def State.memOperand (s : State) : Byte × State :=
  let p := s.memRead s.dc0
  (p.1, p.2.setDc0 (p.2.dc0 + 1))

/-! ### Port numbers -/

/-- The port of INS 0|1 and OUTS 0|1 (R197, R199). -/
def port01 (p : BitVec 1) : Byte := p.setWidth 8

/-- The port of INS n and OUTS n (R198, R200). -/
def portN (n : BitVec 4) : Byte := n.setWidth 8

/-! ### Results -/

/-- A result and its flags: `A <- res; W.O, W.Z, W.C, W.S <- O, Z, C, S`. -/
def State.setAFlags (p : Byte × Flags) (s : State) : State := (s.setA p.1).setFlags p.2

/-- A logical result: `A <- v; W.O, W.Z, W.C, W.S <- LogicFlags(A)` (R21). -/
def State.setALogic (v : Byte) (s : State) : State := (s.setA v).setFlags (logicFlags v)

/-- An input instruction's effect on A and the flags (R195, R197, R198). -/
def State.inputToA (p : Byte) (s : State) : State :=
  let q := s.portIn p
  q.2.setALogic q.1

/-- The test of BT and BR t: the mask's bit k faces W[k] (R63, R174, R188). -/
def testBits {n : Nat} (mask : BitVec n) (w : BitVec 5) : Bool := (mask.setWidth 8 &&& (w.extractLsb' 0 n).setWidth 8) != 0

end Sys2Proof.Machine
end

