-- ==== Sys2Proof/Machine/AccumulatorReference.lean ====
section
/-! DEFINITION. The accumulator-reference instructions (40_accumulator_reference.md, R100 to R117). None carries an interrupt tag; none raises
an exception (R220). -/

namespace Sys2Proof.Machine

/-- `LR A,KU` (R100): `A <- r[12]`. -/
def execLrAKu (s : State) : Host.Outcome State Fault Refusal :=
  .next ((s.setA (s.reg regKU)).advance 1)

/-- `LR A,KL` (R101): `A <- r[13]`. -/
def execLrAKl (s : State) : Host.Outcome State Fault Refusal :=
  .next ((s.setA (s.reg regKL)).advance 1)

/-- `LR A,QU` (R102): `A <- r[14]`. -/
def execLrAQu (s : State) : Host.Outcome State Fault Refusal :=
  .next ((s.setA (s.reg regQU)).advance 1)

/-- `LR A,QL` (R103): `A <- r[15]`. -/
def execLrAQl (s : State) : Host.Outcome State Fault Refusal :=
  .next ((s.setA (s.reg regQL)).advance 1)

/-- `LR KU,A` (R104): `r[12] <- A`. -/
def execLrKuA (s : State) : Host.Outcome State Fault Refusal :=
  .next ((s.setReg regKU s.a).advance 1)

/-- `LR KL,A` (R105): `r[13] <- A`. -/
def execLrKlA (s : State) : Host.Outcome State Fault Refusal :=
  .next ((s.setReg regKL s.a).advance 1)

/-- `LR QU,A` (R106): `r[14] <- A`. -/
def execLrQuA (s : State) : Host.Outcome State Fault Refusal :=
  .next ((s.setReg regQU s.a).advance 1)

/-- `LR QL,A` (R107): `r[15] <- A`. -/
def execLrQlA (s : State) : Host.Outcome State Fault Refusal :=
  .next ((s.setReg regQL s.a).advance 1)

/-- `LR A,IS` (R108): `A <- zext_8(ISAR)`. -/
def execLrAIs (s : State) : Host.Outcome State Fault Refusal :=
  .next ((s.setA (s.isar.setWidth 8)).advance 1)

/-- `LR IS,A` (R109): `ISAR <- A[5:0]`. -/
def execLrIsA (s : State) : Host.Outcome State Fault Refusal :=
  .next ((s.setIsar (s.a.extractLsb' 0 6)).advance 1)

/-- `LR A,r` (R110): `i = ScratchRef(f); A <- r[i]`. -/
def execLrAR (r : ScratchOperand) (s : State) : Host.Outcome State Fault Refusal :=
  let p := s.scratchOperand r
  .next ((p.2.setA p.1).advance 1)

/-- `LR r,A` (R111): `i = ScratchRef(f); r[i] <- A`. -/
def execLrRA (r : ScratchOperand) (s : State) : Host.Outcome State Fault Refusal :=
  let p := s.scratchRef r
  .next ((p.2.setReg p.1 p.2.a).advance 1)

/-- `LM` (R112): `A <- MemRead(DC0, 1); DC0 <- DC0 +_16 1`. -/
def execLm (s : State) : Host.Outcome State Fault Refusal :=
  let p := s.memOperand
  .next ((p.2.setA p.1).advance 1)

/-- `ST` (R113): `MemWrite(DC0, 1, A); DC0 <- DC0 +_16 1`. A store to rom or absent memory changes nothing but DC0 and PC0. -/
def execSt (s : State) : Host.Outcome State Fault Refusal :=
  .next (((s.memWrite s.dc0 s.a).setDc0 (s.dc0 + 1)).advance 1)

/-- `AS r` (R114): `A + r[i]`, flags by AddFlags. -/
def execAs (r : ScratchOperand) (s : State) : Host.Outcome State Fault Refusal :=
  let p := s.scratchOperand r
  .next ((p.2.setAFlags (addFlags p.2.a p.1 false)).advance 1)

/-- `ASD r` (R115): `DecAdd(A, r[i])`, flags as DecAdd returns them. -/
def execAsd (r : ScratchOperand) (s : State) : Host.Outcome State Fault Refusal :=
  let p := s.scratchOperand r
  .next ((p.2.setAFlags (decAdd s.platform.decAdd p.2.a p.1)).advance 1)

/-- `NS r` (R116): `A <- A & r[i]`, flags by LogicFlags. -/
def execNs (r : ScratchOperand) (s : State) : Host.Outcome State Fault Refusal :=
  let p := s.scratchOperand r
  .next ((p.2.setALogic (p.2.a &&& p.1)).advance 1)

/-- `XS r` (R117): `A <- A ^ r[i]`, flags by LogicFlags. -/
def execXs (r : ScratchOperand) (s : State) : Host.Outcome State Fault Refusal :=
  let p := s.scratchOperand r
  .next ((p.2.setALogic (p.2.a ^^^ p.1)).advance 1)

end Sys2Proof.Machine
end

