-- ==== Sys2Proof/Machine/ArithmeticLogic.lean ====
section
/-! DEFINITION. The arithmetic and logic instructions (43_arithmetic_logic.md, R150 to R164). None carries an interrupt tag. -/

namespace Sys2Proof.Machine

/-- `COM` (R150): `A <- ~A`, flags by LogicFlags. -/
def execCom (s : State) : Host.Outcome State Fault Refusal :=
  .next ((s.setALogic (~~~s.a)).advance 1)

/-- `LNK` (R151): `A + W.C`, flags by AddFlags; C is read before it is written. -/
def execLnk (s : State) : Host.Outcome State Fault Refusal :=
  .next ((s.setAFlags (addFlags s.a ((BitVec.ofBool s.flagC).setWidth 8) false)).advance 1)

/-- `LI aa` (R152): `A <- aa`, no flag written. -/
def execLi (aa : Byte) (s : State) : Host.Outcome State Fault Refusal :=
  .next ((s.setA aa).advance 2)

/-- `NI aa` (R153): `A <- A & aa`, flags by LogicFlags. -/
def execNi (aa : Byte) (s : State) : Host.Outcome State Fault Refusal :=
  .next ((s.setALogic (s.a &&& aa)).advance 2)

/-- `OI aa` (R154): `A <- A | aa`, flags by LogicFlags. -/
def execOi (aa : Byte) (s : State) : Host.Outcome State Fault Refusal :=
  .next ((s.setALogic (s.a ||| aa)).advance 2)

/-- `XI aa` (R155): `A <- A ^ aa`, flags by LogicFlags. -/
def execXi (aa : Byte) (s : State) : Host.Outcome State Fault Refusal :=
  .next ((s.setALogic (s.a ^^^ aa)).advance 2)

/-- `AI aa` (R156): `A + aa`, flags by AddFlags. -/
def execAi (aa : Byte) (s : State) : Host.Outcome State Fault Refusal :=
  .next ((s.setAFlags (addFlags s.a aa false)).advance 2)

/-- `CI aa` (R157): flags of `aa + ~A + 1`, that is aa - A; the result goes to A exactly when the parameter CI_WRITES_A says so. -/
def execCi (aa : Byte) (s : State) : Host.Outcome State Fault Refusal :=
  let p := addFlags aa (~~~s.a) true
  .next (((s.setA (if s.platform.ciWritesA then p.1 else s.a)).setFlags p.2).advance 2)

/-- `AM` (R158): `A + m`, flags by AddFlags, m the byte at DC0. -/
def execAm (s : State) : Host.Outcome State Fault Refusal :=
  let p := s.memOperand
  .next ((p.2.setAFlags (addFlags p.2.a p.1 false)).advance 1)

/-- `AMD` (R159): `DecAdd(A, m)`, flags as DecAdd returns them. -/
def execAmd (s : State) : Host.Outcome State Fault Refusal :=
  let p := s.memOperand
  .next ((p.2.setAFlags (decAdd s.platform.decAdd p.2.a p.1)).advance 1)

/-- `NM` (R160): `A <- A & m`, flags by LogicFlags. -/
def execNm (s : State) : Host.Outcome State Fault Refusal :=
  let p := s.memOperand
  .next ((p.2.setALogic (p.2.a &&& p.1)).advance 1)

/-- `OM` (R161): `A <- A | m`, flags by LogicFlags. -/
def execOm (s : State) : Host.Outcome State Fault Refusal :=
  let p := s.memOperand
  .next ((p.2.setALogic (p.2.a ||| p.1)).advance 1)

/-- `XM` (R162): `A <- A ^ m`, flags by LogicFlags. -/
def execXm (s : State) : Host.Outcome State Fault Refusal :=
  let p := s.memOperand
  .next ((p.2.setALogic (p.2.a ^^^ p.1)).advance 1)

/-- `CM` (R163): flags of `m + ~A + 1`, that is m - A; A is not changed. -/
def execCm (s : State) : Host.Outcome State Fault Refusal :=
  let p := s.memOperand
  .next ((p.2.setFlags (addFlags p.1 (~~~p.2.a) true).2).advance 1)

/-- `ADC` (R164): `DC0 <- DC0 +_16 sext_16(A)`, no flags, A unchanged. -/
def execAdc (s : State) : Host.Outcome State Fault Refusal :=
  .next ((s.setDc0 (s.dc0 + sext16 s.a)).advance 1)

end Sys2Proof.Machine
end

