-- ==== Sys2Proof/Machine/Branch.lean ====
section
/-! DEFINITION. The branch instructions (46_branch.md, R185 to R188). JMP and DCI are tagged, BR7 and BR t are not. -/

namespace Sys2Proof.Machine

/-- `JMP iijj` (R185): `A <- ii; PC0 <- ii ++ jj`; tagged. A is destroyed. -/
def execJmp (iijj : Word) (s : State) : Host.Outcome State Fault Refusal :=
  .next ((s.setA (hiByte iijj)).jumpHeld iijj)

/-- `DCI iijj` (R186): `DC0 <- ii ++ jj`; tagged, as the source prints it (D29). -/
def execDci (iijj : Word) (s : State) : Host.Outcome State Fault Refusal :=
  .next ((s.setDc0 iijj).advanceHeld 3)

/-- `BR7 ii` (R187): branch unless ISAR[2:0] is 7. -/
def execBr7 (ii : Byte) (s : State) : Host.Outcome State Fault Refusal :=
  .next (s.branch (isarLower s.isar != 7) ii)

/-- `BR t,ii` (R188): branch when every tested flag is 0. -/
def execBrT (t : BitVec 4) (ii : Byte) (s : State) : Host.Outcome State Fault Refusal :=
  .next (s.branch (!testBits t s.w) ii)

end Sys2Proof.Machine
end

