-- ==== Sys2Proof/Machine/FlagRelated.lean ====
section
/-! DEFINITION. The flag-related instructions (44_flag_related.md, R170 to R174). -/

namespace Sys2Proof.Machine

/-- `DI` (R170): `W.I <- 0`; it does not hold an interrupt off. -/
def execDi (s : State) : Host.Outcome State Fault Refusal :=
  .next ((s.setIcb false).advance 1)

/-- `EI` (R171): `W.I <- 1`; tagged. -/
def execEi (s : State) : Host.Outcome State Fault Refusal :=
  .next ((s.setIcb true).advanceHeld 1)

/-- `LISU e` (R172): `ISAR <- e ++ ISAR[2:0]`. -/
def execLisu (e : BitVec 3) (s : State) : Host.Outcome State Fault Refusal :=
  .next ((s.setIsar (joinIsar e (isarLower s.isar))).advance 1)

/-- `LISL e` (R173): `ISAR <- ISAR[5:3] ++ e`. -/
def execLisl (e : BitVec 3) (s : State) : Host.Outcome State Fault Refusal :=
  .next ((s.setIsar (joinIsar (isarUpper s.isar) e)).advance 1)

/-- `BT e,ii` (R174): branch when a tested flag is 1. -/
def execBt (e : BitVec 3) (ii : Byte) (s : State) : Host.Outcome State Fault Refusal :=
  .next (s.branch (testBits e s.w) ii)

end Sys2Proof.Machine
end

