-- ==== Sys2Proof/Machine/InputOutput.lean ====
section
/-! DEFINITION. The input and output instructions (47_input_output.md, R195 to R200). OUT and OUTS n are tagged, the others are not. -/

namespace Sys2Proof.Machine

/-- `IN PP` (R195): `A <- PortIn(PP)`, flags by LogicFlags. -/
def execIn (pp : Byte) (s : State) : Host.Outcome State Fault Refusal :=
  .next ((s.inputToA pp).advance 2)

/-- `OUT PP` (R196): `PortOut(PP, A)`; tagged. -/
def execOut (pp : Byte) (s : State) : Host.Outcome State Fault Refusal :=
  .next ((s.portOut pp s.a).advanceHeld 2)

/-- `INS 0|1` (R197): `A <- PortIn(p)`, flags by LogicFlags. -/
def execIns01 (p : BitVec 1) (s : State) : Host.Outcome State Fault Refusal :=
  .next ((s.inputToA (port01 p)).advance 1)

/-- `INS n` (R198): `A <- PortIn(n)`, flags by LogicFlags. -/
def execInsN (n : BitVec 4) (s : State) : Host.Outcome State Fault Refusal :=
  .next ((s.inputToA (portN n)).advance 1)

/-- `OUTS 0|1` (R199): `PortOut(p, A)`; NOT tagged. -/
def execOuts01 (p : BitVec 1) (s : State) : Host.Outcome State Fault Refusal :=
  .next ((s.portOut (port01 p) s.a).advance 1)

/-- `OUTS n` (R200): `PortOut(n, A)`; tagged. -/
def execOutsN (n : BitVec 4) (s : State) : Host.Outcome State Fault Refusal :=
  .next ((s.portOut (portN n) s.a).advanceHeld 1)

end Sys2Proof.Machine
end

