-- ==== Sys2Proof/Machine/Other.lean ====
section
/-! DEFINITION. NOP (48_other.md, R205) and the instructions the source does not list (49_not_listed_in_source.md, R210, R211): with
ADMIT_UNLISTED false their opcodes are undefined and refused (R65, R212). -/

namespace Sys2Proof.Machine

/-- `NOP` (R205): PC0 advances, nothing else. -/
def execNop (s : State) : Host.Outcome State Fault Refusal :=
  .next (s.advance 1)

/-- `INC` (R210): `A + 1`, flags by AddFlags, when ADMIT_UNLISTED. -/
def execInc (s : State) : Host.Outcome State Fault Refusal :=
  if s.platform.admitUnlisted then .next ((s.setAFlags (addFlags s.a 0x01 false)).advance 1)
  else .refused (.undefinedOpcode 0x1F)

/-- `LIS n` (R211): `A <- zext_8(n)`, no flag written, when ADMIT_UNLISTED. -/
def execLis (n : BitVec 4) (s : State) : Host.Outcome State Fault Refusal :=
  if s.platform.admitUnlisted then .next ((s.setA (n.setWidth 8)).advance 1)
  else .refused (.undefinedOpcode (0x7#4 ++ n : BitVec (4 + 4)))

end Sys2Proof.Machine
end

