-- ==== Sys2Proof/Machine/PushPop.lean ====
section
/-! DEFINITION. The call and the return (45_push_pop.md, R180, R181). Neither touches memory; both are tagged. -/

namespace Sys2Proof.Machine

/-- `PI iijj` (R180): `A <- ii; PC1 <- a +_16 3; PC0 <- ii ++ jj`; tagged. A is destroyed. -/
def execPi (iijj : Word) (s : State) : Host.Outcome State Fault Refusal :=
  .next (((s.setA (hiByte iijj)).setPc1 (s.pc0 + 3)).jumpHeld iijj)

/-- `POP` (R181, R229): `PC0 <- PC1`; tagged. -/
def execPop (s : State) : Host.Outcome State Fault Refusal :=
  .next (s.returnToPc1)

end Sys2Proof.Machine
end

