-- ==== Sys2Proof/Machine/RegisterReference.lean ====
section
/-! DEFINITION. The register-reference instructions (41_register_reference.md, R120 to R131). PK, LR P0,Q and LR W,J carry the tag that holds
an interrupt off (R226). -/

namespace Sys2Proof.Machine

/-- `LR K,P` (R120): `r[12] <- PC1.hi; r[13] <- PC1.lo`. -/
def execLrKP (s : State) : Host.Outcome State Fault Refusal :=
  .next ((s.setPair regKU regKL s.pc1).advance 1)

/-- `LR P,K` (R121): `PC1 <- r[12] ++ r[13]`. -/
def execLrPK (s : State) : Host.Outcome State Fault Refusal :=
  .next ((s.setPc1 s.pairK).advance 1)

/-- `PK` (R122): `PC1 <- a +_16 1; PC0 <- r[12] ++ r[13]`; tagged. -/
def execPk (s : State) : Host.Outcome State Fault Refusal :=
  .next ((s.setPc1 (s.pc0 + 1)).jumpHeld s.pairK)

/-- `LR P0,Q` (R123): `PC0 <- r[14] ++ r[15]`; tagged. -/
def execLrP0Q (s : State) : Host.Outcome State Fault Refusal :=
  .next (s.jumpHeld s.pairQ)

/-- `LR H,DC` (R124): `r[10] <- DC0.hi; r[11] <- DC0.lo`. -/
def execLrHDc (s : State) : Host.Outcome State Fault Refusal :=
  .next ((s.setPair regHU regHL s.dc0).advance 1)

/-- `LR DC,H` (R125): `DC0 <- r[10] ++ r[11]`. -/
def execLrDcH (s : State) : Host.Outcome State Fault Refusal :=
  .next ((s.setDc0 s.pairH).advance 1)

/-- `LR Q,DC` (R126): `r[14] <- DC0.hi; r[15] <- DC0.lo`. -/
def execLrQDc (s : State) : Host.Outcome State Fault Refusal :=
  .next ((s.setPair regQU regQL s.dc0).advance 1)

/-- `LR DC,Q` (R127): `DC0 <- r[14] ++ r[15]`. -/
def execLrDcQ (s : State) : Host.Outcome State Fault Refusal :=
  .next ((s.setDc0 s.pairQ).advance 1)

/-- `LR W,J` (R128): `W <- r[9][4:0]`, all five bits; tagged. -/
def execLrWJ (s : State) : Host.Outcome State Fault Refusal :=
  .next ((s.setW ((s.reg regJ).extractLsb' 0 5)).advanceHeld 1)

/-- `LR J,W` (R129): `r[9] <- zext_8(W)`. -/
def execLrJW (s : State) : Host.Outcome State Fault Refusal :=
  .next ((s.setReg regJ (s.w.setWidth 8)).advance 1)

/-- `XDC` (R130): DC0 and DC1 exchange their values. -/
def execXdc (s : State) : Host.Outcome State Fault Refusal :=
  .next (((s.setDc0 s.dc1).setDc1 s.dc0).advance 1)

/-- `DS r` (R131): `r[i] + 0xFF` into r[i], flags by AddFlags; A is not read or written. -/
def execDs (r : ScratchOperand) (s : State) : Host.Outcome State Fault Refusal :=
  let p := s.scratchRef r
  let q := addFlags (p.2.reg p.1) 0xFF false
  .next (((p.2.setReg p.1 q.1).setFlags q.2).advance 1)

end Sys2Proof.Machine
end

