-- ==== Sys2Proof/Machine/Shift.lean ====
section
/-! DEFINITION. The shift instructions (42_shift.md, R140 to R143): logical shifts of A by 1 or 4, the bits shifted out are lost. -/

namespace Sys2Proof.Machine

/-- `SR 1` (R140): `A <- zext_8(A[7:1])`. -/
def execSr1 (s : State) : Host.Outcome State Fault Refusal :=
  .next ((s.setALogic ((s.a.extractLsb' 1 7).setWidth 8)).advance 1)

/-- `SL 1` (R141): `A <- A[6:0] ++ 0b0`. -/
def execSl1 (s : State) : Host.Outcome State Fault Refusal :=
  .next ((s.setALogic (s.a.extractLsb' 0 7 ++ (0#1) : BitVec (7 + 1))).advance 1)

/-- `SR 4` (R142): `A <- zext_8(A[7:4])`. -/
def execSr4 (s : State) : Host.Outcome State Fault Refusal :=
  .next ((s.setALogic ((s.a.extractLsb' 4 4).setWidth 8)).advance 1)

/-- `SL 4` (R143): `A <- A[3:0] ++ 0b0000`. -/
def execSl4 (s : State) : Host.Outcome State Fault Refusal :=
  .next ((s.setALogic (s.a.extractLsb' 0 4 ++ (0#4) : BitVec (4 + 4))).advance 1)

end Sys2Proof.Machine
end

