-- ==== Sys2Proof/Machine/Dispatch.lean ====
section
/-! DEFINITION. The dispatch: one arm per instruction, each one direct call of its meaning. -/

namespace Sys2Proof.Machine

/-- One instruction executed to completion; PC0 holds the address of its opcode byte (R19, R221). -/
def exec (i : Instr) (s : State) : Host.Outcome State Fault Refusal :=
  match i with
  | .lrAKu => Sys2Proof.Machine.execLrAKu s
  | .lrAKl => Sys2Proof.Machine.execLrAKl s
  | .lrAQu => Sys2Proof.Machine.execLrAQu s
  | .lrAQl => Sys2Proof.Machine.execLrAQl s
  | .lrKuA => Sys2Proof.Machine.execLrKuA s
  | .lrKlA => Sys2Proof.Machine.execLrKlA s
  | .lrQuA => Sys2Proof.Machine.execLrQuA s
  | .lrQlA => Sys2Proof.Machine.execLrQlA s
  | .lrKP => Sys2Proof.Machine.execLrKP s
  | .lrPK => Sys2Proof.Machine.execLrPK s
  | .lrAIs => Sys2Proof.Machine.execLrAIs s
  | .lrIsA => Sys2Proof.Machine.execLrIsA s
  | .pk => Sys2Proof.Machine.execPk s
  | .lrP0Q => Sys2Proof.Machine.execLrP0Q s
  | .lrQDc => Sys2Proof.Machine.execLrQDc s
  | .lrDcQ => Sys2Proof.Machine.execLrDcQ s
  | .lrDcH => Sys2Proof.Machine.execLrDcH s
  | .lrHDc => Sys2Proof.Machine.execLrHDc s
  | .sr1 => Sys2Proof.Machine.execSr1 s
  | .sl1 => Sys2Proof.Machine.execSl1 s
  | .sr4 => Sys2Proof.Machine.execSr4 s
  | .sl4 => Sys2Proof.Machine.execSl4 s
  | .lm => Sys2Proof.Machine.execLm s
  | .st => Sys2Proof.Machine.execSt s
  | .com => Sys2Proof.Machine.execCom s
  | .lnk => Sys2Proof.Machine.execLnk s
  | .di => Sys2Proof.Machine.execDi s
  | .ei => Sys2Proof.Machine.execEi s
  | .pop => Sys2Proof.Machine.execPop s
  | .lrWJ => Sys2Proof.Machine.execLrWJ s
  | .lrJW => Sys2Proof.Machine.execLrJW s
  | .inc => Sys2Proof.Machine.execInc s
  | .li aa => Sys2Proof.Machine.execLi aa s
  | .ni aa => Sys2Proof.Machine.execNi aa s
  | .oi aa => Sys2Proof.Machine.execOi aa s
  | .xi aa => Sys2Proof.Machine.execXi aa s
  | .ai aa => Sys2Proof.Machine.execAi aa s
  | .ci aa => Sys2Proof.Machine.execCi aa s
  | .inPort pp => Sys2Proof.Machine.execIn pp s
  | .outPort pp => Sys2Proof.Machine.execOut pp s
  | .pi iijj => Sys2Proof.Machine.execPi iijj s
  | .jmp iijj => Sys2Proof.Machine.execJmp iijj s
  | .dci iijj => Sys2Proof.Machine.execDci iijj s
  | .nop => Sys2Proof.Machine.execNop s
  | .xdc => Sys2Proof.Machine.execXdc s
  | .ds r => Sys2Proof.Machine.execDs r s
  | .lrAR r => Sys2Proof.Machine.execLrAR r s
  | .lrRA r => Sys2Proof.Machine.execLrRA r s
  | .lisu e => Sys2Proof.Machine.execLisu e s
  | .lisl e => Sys2Proof.Machine.execLisl e s
  | .lis n => Sys2Proof.Machine.execLis n s
  | .bt e ii => Sys2Proof.Machine.execBt e ii s
  | .am => Sys2Proof.Machine.execAm s
  | .amd => Sys2Proof.Machine.execAmd s
  | .nm => Sys2Proof.Machine.execNm s
  | .om => Sys2Proof.Machine.execOm s
  | .xm => Sys2Proof.Machine.execXm s
  | .cm => Sys2Proof.Machine.execCm s
  | .adc => Sys2Proof.Machine.execAdc s
  | .br7 ii => Sys2Proof.Machine.execBr7 ii s
  | .brT t ii => Sys2Proof.Machine.execBrT t ii s
  | .ins01 p => Sys2Proof.Machine.execIns01 p s
  | .insN n => Sys2Proof.Machine.execInsN n s
  | .outs01 p => Sys2Proof.Machine.execOuts01 p s
  | .outsN n => Sys2Proof.Machine.execOutsN n s
  | .asR r => Sys2Proof.Machine.execAs r s
  | .asdR r => Sys2Proof.Machine.execAsd r s
  | .xsR r => Sys2Proof.Machine.execXs r s
  | .nsR r => Sys2Proof.Machine.execNs r s

end Sys2Proof.Machine
end

