-- ==== Sys2Proof/WellFormed.lean ====
section
/-! DEFINITION. Which terms of Instr an encoding exists for. The types of the operands settle all of it but one thing: the short
port instructions INS n and OUTS n have no ports 0..3 (R198, R200, R201). -/

namespace Sys2Proof

/-- The port number of INS n and OUTS n is 4..15: 0 and 1 belong to INS 0|1 and OUTS 0|1, and 2 and 3 have no
encoding (R198, R200, R201). -/
abbrev shortPortOk (n : BitVec 4) : Bool := 4 ≤ n.toNat

/-- An instruction is well formed when an encoding of R64 stands for it. -/
def Instr.wellFormed : Instr → Bool
  | .lrAKu | .lrAKl | .lrAQu | .lrAQl | .lrKuA | .lrKlA | .lrQuA | .lrQlA => true
  | .lrKP | .lrPK | .lrAIs | .lrIsA | .pk | .lrP0Q | .lrQDc | .lrDcQ | .lrDcH | .lrHDc => true
  | .sr1 | .sl1 | .sr4 | .sl4 | .lm | .st | .com | .lnk | .di | .ei | .pop | .lrWJ | .lrJW | .inc => true
  | .li _ | .ni _ | .oi _ | .xi _ | .ai _ | .ci _ | .inPort _ | .outPort _ => true
  | .pi _ | .jmp _ | .dci _ | .nop | .xdc => true
  | .ds _ | .lrAR _ | .lrRA _ | .asR _ | .asdR _ | .xsR _ | .nsR _ => true
  | .lisu _ | .lisl _ | .lis _ | .bt _ _ | .br7 _ | .brT _ _ => true
  | .am | .amd | .nm | .om | .xm | .cm | .adc => true
  | .ins01 _ | .outs01 _ => true
  | .insN n => shortPortOk n
  | .outsN n => shortPortOk n

end Sys2Proof
end

