-- ==== Sys2Proof/Decode.lean ====
section
/-! DEFINITION. The decoder, a table of rows read as R69 says, and the encoder, written from the opcode map R64. -/

namespace Sys2Proof

open Sys2Proof.Machine (joinBytes hiByte loByte)

/-- Why bytes are no instruction. -/
inductive DecodeError where
  /-- the opcode byte selects no row (R65, R212) -/
  | undefinedOpcode (b : Byte)
  /-- fewer bytes than the opcode byte asks for; fetching from memory never ends so -/
  | truncated
deriving DecidableEq, Repr

/-- `f`, `n` or `t`: bits 3..0 of the opcode byte (R61). -/
def lowNibble (b : Byte) : BitVec 4 := b.extractLsb' 0 4

/-- `e`: bits 2..0 of the opcode byte (R61). -/
def lowThree (b : Byte) : BitVec 3 := b.extractLsb' 0 3

/-- The scratchpad operand of the field in bits 3..0 (R27). The rows that use it leave the field value 15 out. -/
def scratchField (b : Byte) : ScratchOperand :=
  if h : (lowNibble b).toNat < 12 then .direct ⟨(lowNibble b).toNat, h⟩
  else if lowNibble b = 12 then .isar
  else if lowNibble b = 13 then .isarInc
  else .isarDec

/-- A row of the opcode table (R69): the opcode byte selects it when its bits under `mask` are `pat` and it is not in
`excluded`; `build` makes the instruction of byte 0, byte 1 and byte 2. -/
structure OpRow where
  pat      : Byte
  mask     : Byte
  excluded : List Byte
  length   : Nat
  build    : Byte → Byte → Byte → Instr

/-- A row without fields: format OP (R61). -/
def rowOp (pat : Byte) (i : Instr) : OpRow := ⟨pat, 0xFF, [], 1, fun _ _ _ => i⟩

/-- A row with a scratchpad operand: format OP_R (R61); the code with field 15 is undefined (R65). -/
def rowR (pat : Byte) (i : ScratchOperand → Instr) : OpRow :=
  ⟨pat, 0xF0, [pat ||| 0x0F], 1, fun b _ _ => i (scratchField b)⟩

/-- A row with a 3-bit operand: format OP_E (R61). -/
def rowE (pat : Byte) (i : BitVec 3 → Instr) : OpRow := ⟨pat, 0xF8, [], 1, fun b _ _ => i (lowThree b)⟩

/-- A row with one operand byte: formats OP_I8 and OP_D8 (R61). -/
def rowI8 (pat : Byte) (i : Byte → Instr) : OpRow := ⟨pat, 0xFF, [], 2, fun _ b1 _ => i b1⟩

/-- A row with a 16-bit operand, byte 1 its upper half: format OP_I16 (R61, R63). -/
def rowI16 (pat : Byte) (i : Word → Instr) : OpRow := ⟨pat, 0xFF, [], 3, fun _ b1 b2 => i (joinBytes b1 b2)⟩

/-- Rows 00 to 1F (R64). -/
def rowsLow : List OpRow :=
  [ rowOp 0x00 .lrAKu, rowOp 0x01 .lrAKl, rowOp 0x02 .lrAQu, rowOp 0x03 .lrAQl,
    rowOp 0x04 .lrKuA, rowOp 0x05 .lrKlA, rowOp 0x06 .lrQuA, rowOp 0x07 .lrQlA,
    rowOp 0x08 .lrKP, rowOp 0x09 .lrPK, rowOp 0x0A .lrAIs, rowOp 0x0B .lrIsA,
    rowOp 0x0C .pk, rowOp 0x0D .lrP0Q, rowOp 0x0E .lrQDc, rowOp 0x0F .lrDcQ ] ++
  [ rowOp 0x10 .lrDcH, rowOp 0x11 .lrHDc, rowOp 0x12 .sr1, rowOp 0x13 .sl1,
    rowOp 0x14 .sr4, rowOp 0x15 .sl4, rowOp 0x16 .lm, rowOp 0x17 .st,
    rowOp 0x18 .com, rowOp 0x19 .lnk, rowOp 0x1A .di, rowOp 0x1B .ei,
    rowOp 0x1C .pop, rowOp 0x1D .lrWJ, rowOp 0x1E .lrJW, rowOp 0x1F .inc ]

/-- Rows 20 to 2C (R64). -/
def rowsImmediate : List OpRow :=
  [ rowI8 0x20 .li, rowI8 0x21 .ni, rowI8 0x22 .oi, rowI8 0x23 .xi, rowI8 0x24 .ai, rowI8 0x25 .ci,
    rowI8 0x26 .inPort, rowI8 0x27 .outPort, rowI16 0x28 .pi, rowI16 0x29 .jmp, rowI16 0x2A .dci,
    rowOp 0x2B .nop, rowOp 0x2C .xdc ]

/-- Rows 30 to 7F (R64). -/
def rowsMiddle : List OpRow :=
  [ rowR 0x30 .ds, rowR 0x40 .lrAR, rowR 0x50 .lrRA, rowE 0x60 .lisu, rowE 0x68 .lisl,
    ⟨0x70, 0xF0, [], 1, fun b _ _ => .lis (lowNibble b)⟩ ]

/-- Rows 80 to 9F (R64). -/
def rowsMemoryBranch : List OpRow :=
  [ ⟨0x80, 0xF8, [], 2, fun b b1 _ => .bt (lowThree b) b1⟩,
    rowOp 0x88 .am, rowOp 0x89 .amd, rowOp 0x8A .nm, rowOp 0x8B .om, rowOp 0x8C .xm, rowOp 0x8D .cm,
    rowOp 0x8E .adc, rowI8 0x8F .br7,
    ⟨0x90, 0xF0, [], 2, fun b b1 _ => .brT (lowNibble b) b1⟩ ]

/-- Rows A0 to FF (R64): the short port instructions leave the ports 2 and 3 out (R65, R201). -/
def rowsHigh : List OpRow :=
  [ ⟨0xA0, 0xFE, [], 1, fun b _ _ => .ins01 (b.extractLsb' 0 1)⟩,
    ⟨0xA0, 0xF0, [0xA0, 0xA1, 0xA2, 0xA3], 1, fun b _ _ => .insN (lowNibble b)⟩,
    ⟨0xB0, 0xFE, [], 1, fun b _ _ => .outs01 (b.extractLsb' 0 1)⟩,
    ⟨0xB0, 0xF0, [0xB0, 0xB1, 0xB2, 0xB3], 1, fun b _ _ => .outsN (lowNibble b)⟩,
    rowR 0xC0 .asR, rowR 0xD0 .asdR, rowR 0xE0 .xsR, rowR 0xF0 .nsR ]

/-- The opcode table (R64, R69). -/
def opRows : List OpRow := rowsLow ++ rowsImmediate ++ rowsMiddle ++ rowsMemoryBranch ++ rowsHigh

/-- "A byte b selects the row when (b & mask) == match and b is not in the row's exclude list" (R69). -/
def OpRow.selects (row : OpRow) (b : Byte) : Bool := (b &&& row.mask) == row.pat && !row.excluded.contains b

/-- The row an opcode byte selects; none for the undefined opcodes (R65). -/
def rowOf (b : Byte) : Option OpRow := opRows.find? (·.selects b)

/-- The length in bytes, decided by the opcode byte alone (R60, R66). -/
def opcodeLength (b : Byte) : Option Nat := (rowOf b).map (·.length)

/-- The instruction at the head of a list of bytes, and the bytes after it. Total: an undefined opcode or too few bytes are
refused by name. -/
def decode : List Byte → Except DecodeError (Instr × List Byte)
  | [] => .error .truncated
  | b0 :: rest =>
    match rowOf b0 with
    | none => .error (.undefinedOpcode b0)
    | some row =>
      match row.length, rest with
      | 1, rest => .ok (row.build b0 0 0, rest)
      | 2, b1 :: rest => .ok (row.build b0 b1 0, rest)
      | 3, b1 :: b2 :: rest => .ok (row.build b0 b1 b2, rest)
      | _, _ => .error .truncated

/-- The bytes of an instruction word of the opcode table, as the hardware stores them: byte 0 is bits 7..0, byte 1 bits 15..8,
byte 2 bits 23..16, and every bit from `nbits` up is 0. -/
def tableBytes (nbits w : Nat) : List Byte :=
  let v := w % 2 ^ nbits
  [BitVec.ofNat 8 v, BitVec.ofNat 8 (v / 256), BitVec.ofNat 8 (v / 65536)]

/-- The instruction the decoder reads from an opcode-table word. -/
def decodeTableWord (nbits w : Nat) : Option Instr :=
  match decode (tableBytes nbits w) with
  | .ok (i, _) => some i
  | .error _ => none

/-- The field value of a scratchpad operand (R27). -/
def scratchCode : ScratchOperand → BitVec 4
  | .direct n => BitVec.ofNat 4 n.val
  | .isar => 12
  | .isarInc => 13
  | .isarDec => 14

/-- The opcode byte of a 4-bit group and a 4-bit field (R61). -/
def groupByte (g f : BitVec 4) : Byte := g ++ f

/-- The bytes of an instruction, from the opcode map (R61, R64). -/
def encode : Instr → List Byte
  | .lrAKu => [0x00]
  | .lrAKl => [0x01]
  | .lrAQu => [0x02]
  | .lrAQl => [0x03]
  | .lrKuA => [0x04]
  | .lrKlA => [0x05]
  | .lrQuA => [0x06]
  | .lrQlA => [0x07]
  | .lrKP => [0x08]
  | .lrPK => [0x09]
  | .lrAIs => [0x0A]
  | .lrIsA => [0x0B]
  | .pk => [0x0C]
  | .lrP0Q => [0x0D]
  | .lrQDc => [0x0E]
  | .lrDcQ => [0x0F]
  | .lrDcH => [0x10]
  | .lrHDc => [0x11]
  | .sr1 => [0x12]
  | .sl1 => [0x13]
  | .sr4 => [0x14]
  | .sl4 => [0x15]
  | .lm => [0x16]
  | .st => [0x17]
  | .com => [0x18]
  | .lnk => [0x19]
  | .di => [0x1A]
  | .ei => [0x1B]
  | .pop => [0x1C]
  | .lrWJ => [0x1D]
  | .lrJW => [0x1E]
  | .inc => [0x1F]
  | .li aa => [0x20, aa]
  | .ni aa => [0x21, aa]
  | .oi aa => [0x22, aa]
  | .xi aa => [0x23, aa]
  | .ai aa => [0x24, aa]
  | .ci aa => [0x25, aa]
  | .inPort pp => [0x26, pp]
  | .outPort pp => [0x27, pp]
  | .pi iijj => [0x28, hiByte iijj, loByte iijj]
  | .jmp iijj => [0x29, hiByte iijj, loByte iijj]
  | .dci iijj => [0x2A, hiByte iijj, loByte iijj]
  | .nop => [0x2B]
  | .xdc => [0x2C]
  | .ds r => [groupByte 0x3 (scratchCode r)]
  | .lrAR r => [groupByte 0x4 (scratchCode r)]
  | .lrRA r => [groupByte 0x5 (scratchCode r)]
  | .lisu e => [(0b01100#5 ++ e : BitVec (5 + 3))]
  | .lisl e => [(0b01101#5 ++ e : BitVec (5 + 3))]
  | .lis n => [groupByte 0x7 n]
  | .bt e ii => [(0b10000#5 ++ e : BitVec (5 + 3)), ii]
  | .am => [0x88]
  | .amd => [0x89]
  | .nm => [0x8A]
  | .om => [0x8B]
  | .xm => [0x8C]
  | .cm => [0x8D]
  | .adc => [0x8E]
  | .br7 ii => [0x8F, ii]
  | .brT t ii => [groupByte 0x9 t, ii]
  | .ins01 p => [(0b1010000#7 ++ p : BitVec (7 + 1))]
  | .insN n => [groupByte 0xA n]
  | .outs01 p => [(0b1011000#7 ++ p : BitVec (7 + 1))]
  | .outsN n => [groupByte 0xB n]
  | .asR r => [groupByte 0xC (scratchCode r)]
  | .asdR r => [groupByte 0xD (scratchCode r)]
  | .xsR r => [groupByte 0xE (scratchCode r)]
  | .nsR r => [groupByte 0xF (scratchCode r)]

end Sys2Proof
end

