-- ==== Sys2Proof/Machine/Fetch.lean ====
section
/-! DEFINITION. Fetching an instruction through PC0: the opcode byte, then as many operand bytes as it asks for, each by one
MemRead (R44, R50). -/

namespace Sys2Proof.Machine

/-- `n` bytes read one after another from an address on, wrapping after 0xFFFF (R19, R44). -/
def State.readBytes : (n : Nat) → (addr : Word) → State → List Byte × State
  | 0, _, s => ([], s)
  | n + 1, addr, s =>
    let p := s.memRead addr
    let q := State.readBytes n (addr + 1) p.2
    (p.1 :: q.1, q.2)

/-- The instruction at PC0, and the state after its bytes have been read. PC0 still holds the address of the opcode byte
(R19). An undefined opcode is refused, and no length is guessed for it (R65, R212). -/
def fetch (s : State) : Except Refusal (Instr × State) :=
  let p := s.memRead s.pc0
  match opcodeLength p.1 with
  | none => .error (.undefinedOpcode p.1)
  | some len =>
    let q := State.readBytes (len - 1) (s.pc0 + 1) p.2
    match decode (p.1 :: q.1) with
    | .ok (i, _) => .ok (i, q.2)
    | .error _ => .error (.undefinedOpcode p.1)

/-- The instruction at PC0 executed, or the refusal of the fetch (R221). -/
def fetchAndRun (run : Instr → State → Host.Outcome State Fault Refusal) (s : State) :
    Host.Outcome State Fault Refusal :=
  match fetch s with
  | .ok (i, s') => run i s'
  | .error r => .refused r

end Sys2Proof.Machine
end

