-- ==== Sys2Proof/Machine/Step.lean ====
section
/-! DEFINITION. One step of the machine (R221), and the placing of an opcode-table word for the host. -/

namespace Sys2Proof.Machine

/-- One step (R221): RESET if reset is asserted, else INTRPT if an interrupt is due, else one instruction to completion. Then
the environment sets the pins for the next boundary (R222, R250). -/
def step (s : State) : Host.Outcome State Fault Refusal :=
  if s.pins.extrst then onNext State.nextPins (.next s.takeReset)
  else if s.interruptDue then onNext State.nextPins (.next s.takeInterrupt)
  else onNext State.nextPins (fetchAndRun exec s)

/-- The state with an opcode-table word stored where the next step fetches, and with no reset or interrupt request at the
boundary: the very next step fetches and runs that instruction (log 13). -/
def State.withFetchWord (s : State) (nbits w : Nat) : State :=
  State.placeBytes s.pc0 (tableBytes nbits w) s.quietPins

end Sys2Proof.Machine
end

