-- ==== Sys2Proof/Safety.lean ====
section
/-! DEFINITION. What counts as a safe run, and the invariant every step keeps. -/

namespace Sys2Proof.Machine

/-- The invariant of the model's data: main memory is in its canonical form. Everything else of the state is legal by its
type: every value of every register is (R18, R43, R233). -/
def State.Inv (s : State) : Prop := s.mem.wf = true

/-- A run of at most `fuel` steps that is over when the parameter EndOfRun holds (R258, D27). The chip goes on; the run does
not. -/
def runUntil (endOfRun : State → Bool) : (fuel : Nat) → State → Host.Outcome State Fault Refusal
  | 0, s => .next s
  | fuel + 1, s =>
    if endOfRun s then .next s
    else
      match step s with
      | .next t => runUntil endOfRun fuel t
      | .fault r => .fault r
      | .refused r => .refused r

/-- A run is safe when it never reaches an undefined opcode: nothing else stops this machine (R212, R220). -/
def SafeRun (endOfRun : State → Bool) (s : State) : Prop :=
  ∀ fuel r, runUntil endOfRun fuel s ≠ .refused r

end Sys2Proof.Machine
end

