-- ==== Sys2Proof/Certificates/Slice0/Obligations.lean ====
section
/-! DEFINITION. The statements for the provers. Each is written from the spec's rules; what it needs to say them with (the
arithmetic of a rule, the parts of the state, the tables of the spec) stands first, in terms of numbers and reads of the
state and not of the operations the meanings are written with.

The opcodes, lengths and flag computations in them are numbered rules of the spec that the spec itself marks as general
knowledge of the F3850 (log 15, 16); where a clause rests on a row of 92_eei_decisions.md the statement names the row. -/

open Sys2Proof Sys2Proof.Machine

namespace Sys2Proof.Spec

/-! ### Encodings -/

/-- An instruction's bytes, both ways: it is encoded so, and these bytes decode to it with whatever follows left over. -/
def EncodedAs (i : Instr) (bytes : List Byte) : Prop :=
  encode i = bytes ∧ ∀ rest, decode (bytes ++ rest) = .ok (i, rest)

/-- An opcode byte that selects no instruction is refused by name, whatever follows it. -/
def UndefinedByte (b : Byte) : Prop := ∀ rest, decode (b :: rest) = .error (.undefinedOpcode b)

/-- The 14 undefined opcode values of R65. -/
def undefinedOpcodes : List Byte :=
  [0x2D, 0x2E, 0x2F, 0x3F, 0x4F, 0x5F, 0xA2, 0xA3, 0xB2, 0xB3, 0xCF, 0xDF, 0xEF, 0xFF]

/-- The field value f of a scratchpad operand (R27). -/
def fieldOf : ScratchOperand → Nat
  | .direct n => n.val
  | .isar => 12
  | .isarInc => 13
  | .isarDec => 14

/-- The opcode byte of a group and a scratchpad operand: format OP_R (R61). -/
def opR (group : Nat) (r : ScratchOperand) : List Byte := [BitVec.ofNat 8 (16 * group + fieldOf r)]

/-! ### Operands -/

/-- The register a scratchpad operand selects: ISAR before any change (R27). -/
def selected (r : ScratchOperand) (s : State) : ScratchIndex :=
  match r with
  | .direct n => BitVec.ofNat 6 n.val
  | _ => s.isar

/-- ISAR after a scratchpad operand: the lower half steps modulo 8, the upper half stays (R27). -/
def isarAfter (r : ScratchOperand) (s : State) : ScratchIndex :=
  let i := s.isar.toNat
  match r with
  | .isarInc => BitVec.ofNat 6 (i / 8 * 8 + (i % 8 + 1) % 8)
  | .isarDec => BitVec.ofNat 6 (i / 8 * 8 + (i % 8 + 7) % 8)
  | _ => s.isar

/-- The state after a scratchpad operand has had its effect on ISAR. -/
def stepped (r : ScratchOperand) (s : State) : State := { s with isar := isarAfter r s }

/-- The byte a data access at DC0 reads: the byte held, or a draw where nothing stands (R51). -/
def dataByte (s : State) : Byte :=
  if s.kindAt s.dc0 = .absent then Config.absentByte s.absentReads s.dc0 else s.byteAt s.dc0

/-- The state after a data read at DC0: DC0 has stepped, and a draw has been used where nothing stands (R46, R51). -/
def afterData (s : State) : State :=
  { s with dc0 := s.dc0 + 1, absentReads := s.absentReads + (if s.kindAt s.dc0 = .absent then 1 else 0) }

/-- What the environment answers on a port (R47): the next known answer, or the oracle's (how answers are held is the
model's: log 10). -/
def portValue (p : Byte) (s : State) : Byte := s.portAnswers.headD (Config.portRead p s.portReads s.portEvents)

/-- The state after a port read: one answer is used up, and the read is kept as an event, port and value (R44, R47). -/
def afterPort (p : Byte) (s : State) : State :=
  { s with portAnswers := s.portAnswers.tail, portEvents := s.portEvents ++ [.input p (portValue p s)] }

/-- The state after a port write, which is kept as an event, port and value (R44, R47). -/
def afterWrite (p : Byte) (s : State) : State := { s with portEvents := s.portEvents ++ [.output p s.a] }

/-- A 16-bit pair of scratchpad registers (R13). -/
def pairValue (s : State) (u l : ScratchIndex) : Word := BitVec.ofNat 16 (256 * (s.reg u).toNat + (s.reg l).toNat)

/-- The upper byte of a 16-bit value, as a number. -/
def upperByte (x : Word) : Byte := BitVec.ofNat 8 (x.toNat / 256)

/-- The lower byte of a 16-bit value, as a number. -/
def lowerByte (x : Word) : Byte := BitVec.ofNat 8 (x.toNat % 256)

/-- The target of a relative branch: a + 1 + the signed displacement, modulo 2^16 (R63). -/
def branchTo (s : State) (dd : Byte) : Word := BitVec.ofInt 16 ((s.pc0.toNat : Int) + 1 + dd.toInt)

/-! ### Results -/

/-- W with its four arithmetic bits replaced and bit 4 kept (R20, R21). -/
def withFlags (w : BitVec 5) (f : Flags) : BitVec 5 :=
  BitVec.ofNat 5 (w.toNat / 16 * 16 + 8 * f.o.toNat + 4 * f.z.toNat + 2 * f.c.toNat + f.s.toNat)

/-- W with bit 4 replaced and the arithmetic bits kept (R16). -/
def withIcb (w : BitVec 5) (b : Bool) : BitVec 5 := BitVec.ofNat 5 (16 * b.toNat + w.toNat % 16)

/-- A logical result and its flags (R21). -/
def logic (v : Byte) : Byte × Flags := (v, logicFlags v)

/-- The end of an untagged instruction of `len` bytes that does not transfer control (R19, R226): `u` holds its other
effects. -/
def ends (u : State) (len : Word) : State := { u with pc0 := u.pc0 + len, noint := false }

/-- The end of a tagged instruction, with the PC0 it leaves (R226). -/
def endsTagged (u : State) (pc : Word) : State := { u with pc0 := pc, noint := true }

/-- A result into A and the flags, on top of the effects in `u`. -/
def intoA (u : State) (p : Byte × Flags) : State := { u with a := p.1, w := withFlags u.w p.2 }

/-- From `s` the instruction answers exactly the next state `t`, and it has these bytes. -/
def Does (i : Instr) (bytes : List Byte) (s t : State) : Prop := exec i s = .next t ∧ EncodedAs i bytes

/-- From `s` the instruction answers a next state that is `u` but for the scratchpad, whose registers read `regs`; and it has
these bytes. -/
def DoesScratch (i : Instr) (bytes : List Byte) (s u : State) (regs : ScratchIndex → Byte) : Prop :=
  (∃ t, exec i s = .next t ∧ (∀ j, t.reg j = regs j) ∧ t = { u with scratch := t.scratch }) ∧ EncodedAs i bytes

/-- The scratchpad with one register written. -/
def regsWith (s : State) (k : ScratchIndex) (v : Byte) : ScratchIndex → Byte := fun j => if j = k then v else s.reg j

/-- The scratchpad with a pair written, upper byte in the lower-numbered register (R13). -/
def regsWithPair (s : State) (u l : ScratchIndex) (x : Word) : ScratchIndex → Byte :=
  fun j => if j = u then upperByte x else if j = l then lowerByte x else s.reg j

/-! ### Whole-machine tables -/

/-- The rows tagged "[割込処理時無効]" that are instructions (R226). -/
def tagged : Instr → Bool
  | .pk | .lrP0Q | .lrWJ | .ei | .pi _ | .pop | .jmp _ | .dci _ | .outPort _ | .outsN _ => true
  | _ => false

/-- A part of the state, for saying what an instruction leaves alone. PC0 and the hold-off latch are not parts: every
instruction writes them. -/
inductive Part where
  | a
  | isarUpper
  | isarLower
  | flags
  | icb
  | dc0
  | dc1
  | pc1
  | reg (i : ScratchIndex)
  | byte (addr : Word)
  | outputs
  | portInput
  | portEvents
  | absentReads
  | pins
  | platform

/-- Two states agree in a part. -/
def Agrees (s t : State) : Part → Prop
  | .a => t.a = s.a
  | .isarUpper => t.isar.toNat / 8 = s.isar.toNat / 8
  | .isarLower => t.isar.toNat % 8 = s.isar.toNat % 8
  | .flags => t.flags = s.flags
  | .icb => t.icb = s.icb
  | .dc0 => t.dc0 = s.dc0
  | .dc1 => t.dc1 = s.dc1
  | .pc1 => t.pc1 = s.pc1
  | .reg i => t.reg i = s.reg i
  | .byte addr => t.byteAt addr = s.byteAt addr
  | .outputs => t.outputs = s.outputs
  | .portInput => t.portAnswers = s.portAnswers ∧ t.inputs = s.inputs
  | .portEvents => t.portEvents = s.portEvents
  | .absentReads => t.absentReads = s.absentReads
  | .pins => t.pins = s.pins ∧ t.pinsAhead = s.pinsAhead
  | .platform => t.platform = s.platform

/-- ISAR's lower half, where the operand steps it (R27). -/
def stepParts : ScratchOperand → List Part
  | .direct _ | .isar => []
  | .isarInc | .isarDec => [.isarLower]

/-- What a data read at DC0 writes beside DC0: the count of draws, where nothing stands (R51). -/
def drawParts (s : State) : List Part := if s.kindAt s.dc0 = .absent then [.absentReads] else []

/-- The parts an instruction may write from a state, read off its rule. -/
def writes (s : State) : Instr → List Part
  | .lrAKu | .lrAKl | .lrAQu | .lrAQl | .lrAIs | .li _ | .lis _ => [.a]
  | .lrKuA => [.reg 12]
  | .lrKlA => [.reg 13]
  | .lrQuA => [.reg 14]
  | .lrQlA => [.reg 15]
  | .lrKP => [.reg 12, .reg 13]
  | .lrPK | .pk => [.pc1]
  | .lrIsA => [.isarUpper, .isarLower]
  | .lrP0Q | .pop | .nop | .bt _ _ | .br7 _ | .brT _ _ => []
  | .lrQDc => [.reg 14, .reg 15]
  | .lrHDc => [.reg 10, .reg 11]
  | .lrDcQ | .lrDcH | .dci _ | .adc => [.dc0]
  | .sr1 | .sl1 | .sr4 | .sl4 | .com | .lnk | .inc => [.a, .flags]
  | .ni _ | .oi _ | .xi _ | .ai _ => [.a, .flags]
  | .ci _ => if s.platform.ciWritesA then [.a, .flags] else [.flags]
  | .lm => [.a, .dc0] ++ drawParts s
  | .st => [.dc0] ++ (if s.kindAt s.dc0 = .ram then [.byte s.dc0] else [])
  | .am | .amd | .nm | .om | .xm => [.a, .flags, .dc0] ++ drawParts s
  | .cm => [.flags, .dc0] ++ drawParts s
  | .di | .ei => [.icb]
  | .lrWJ => [.flags, .icb]
  | .lrJW => [.reg 9]
  | .xdc => [.dc0, .dc1]
  | .ds r => [.reg (selected r s), .flags] ++ stepParts r
  | .lrAR r => [.a] ++ stepParts r
  | .lrRA r => [.reg (selected r s)] ++ stepParts r
  | .asR r | .asdR r | .nsR r | .xsR r => [.a, .flags] ++ stepParts r
  | .lisu _ => [.isarUpper]
  | .lisl _ => [.isarLower]
  | .pi _ => [.a, .pc1]
  | .jmp _ => [.a]
  | .inPort _ | .ins01 _ | .insN _ => [.a, .flags, .portInput, .portEvents]
  | .outPort _ | .outs01 _ | .outsN _ => [.outputs, .portEvents]

/-- A two-digit decimal number as a packed byte: tens in the upper digit (R165). -/
def packedDecimal (n : Nat) : Byte := BitVec.ofNat 8 (16 * (n / 10) + n % 10)

end Sys2Proof.Spec

open Sys2Proof.Spec

/-! ### Encoding -/

/-- Decode and encode agree: the bytes of every well-formed instruction, with every operand, decode to it (R61, R64). -/
def Obligations.DecodeOfEncodeIsTheInstruction : Prop :=
  ∀ (i : Instr) (rest : List Byte), i.wellFormed = true → decode (encode i ++ rest) = .ok (i, rest)

/-- The other direction: whatever bytes decode, they are the encoding of the instruction they decode to, which is well
formed. No two spellings, and no bit is ignored (R64). -/
def Obligations.DecodedBytesAreTheEncoding : Prop :=
  ∀ (bytes rest : List Byte) (i : Instr), decode bytes = .ok (i, rest) → i.wellFormed = true ∧ bytes = encode i ++ rest

/-- The opcode table as R69 and R65 read it: 69 rows, a byte selects at most one, and exactly the 14 undefined opcodes select
none. -/
def Obligations.EveryOpcodeByteSelectsAtMostOneRow : Prop :=
  opRows.length = 69 ∧
    ∀ b : Byte, (opRows.filter (·.selects b)).length = if b ∈ undefinedOpcodes then 0 else 1

/-- R66: the length of an instruction, by its opcode byte.
The spec marks R66 as general knowledge (log 15). -/
def Obligations.LengthIsDecidedByTheOpcodeByte : Prop :=
  ∀ b : Byte, opcodeLength b =
    if b ∈ undefinedOpcodes then none
    else if 0x28 ≤ b.toNat ∧ b.toNat ≤ 0x2A then some 3
    else if (0x20 ≤ b.toNat ∧ b.toNat ≤ 0x27) ∨ (0x80 ≤ b.toNat ∧ b.toNat ≤ 0x87) ∨ b.toNat = 0x8F ∨
        (0x90 ≤ b.toNat ∧ b.toNat ≤ 0x9F) then some 2
    else some 1

/-- A few words written out from R64, one for each family and for each pair of neighbours that is easy to confuse. -/
def Obligations.SampleWordsDecode : Prop :=
  decode [0x97, 0x05] = .ok (.brT 7 0x05, []) ∧ decode [0x8F, 0x05] = .ok (.br7 0x05, []) ∧
    decode [0x6F] = .ok (.lisl 7, []) ∧ decode [0x67] = .ok (.lisu 7, []) ∧
    decode [0x28, 0x12, 0x34] = .ok (.pi 0x1234, []) ∧ decode [0x2C] = .ok (.xdc, []) ∧
    decode [0x4E] = .ok (.lrAR .isarDec, []) ∧ decode [0xBF] = .ok (.outsN 15, []) ∧
    decode [0x88] = .ok (.am, []) ∧ decode [0x87, 0x00] = .ok (.bt 7 0x00, []) ∧
    decode [0x15] = .ok (.sl4, []) ∧ decode [0x2D] = .error (.undefinedOpcode 0x2D)

/-! ### The step -/

/-- A step runs the decoded instruction (R221): where no reset is asserted and no interrupt is due, and the bytes at PC0 are
there and decode to i, the step is i executed in this state, PC0 still at the opcode byte; then the environment sets the
pins. With no pin levels ahead, the step is exec itself. -/
def Obligations.StepRunsTheDecodedInstruction : Prop :=
  ∀ (s : State) (i : Instr) (rest : List Byte),
    s.pins.extrst = false → s.interruptDue = false →
    decode [s.byteAt s.pc0, s.byteAt (s.pc0 + 1), s.byteAt (s.pc0 + 2)] = .ok (i, rest) →
    (∀ k : Nat, k + rest.length < 3 → s.kindAt (s.pc0 + BitVec.ofNat 16 k) ≠ .absent) →
    step s = onNext State.nextPins (exec i s) ∧ (s.pinsAhead = [] → step s = exec i s)

/-- What the host places is what the next step runs: from every state, the state with an opcode-table word placed steps to
that instruction's effect. -/
def Obligations.PlacedWordIsRunNext : Prop :=
  ∀ (s : State) (nbits w : Nat) (i : Instr), decodeTableWord nbits w = some i →
    step (s.withFetchWord nbits w) = onNext State.nextPins (exec i (s.withFetchWord nbits w))

/-- R206, R221, R228: when the request is up, ICB is 1 and the latch is clear, and no reset is asserted, the step is INTRPT:
PC1 takes the whole PC0, PC0 the address supplied, ICB 0, the latch set; every other part of the state is as it was.
That the whole old PC0 is saved and that the address comes from the environment is the spec's decision D16 (log 12, 23). -/
def Obligations.InterruptEntrySavesPcAndClearsIcb : Prop :=
  ∀ s : State, s.pins.extrst = false → s.pins.intreq = true → s.icb = true → s.noint = false →
    step s = .next (State.nextPins
      { s with pc1 := s.pc0, pc0 := s.pins.intVec, w := withIcb s.w false, noint := true })

/-- R207, R227: with reset asserted the step is RESET, whatever else is requested: PC1 takes the old PC0, PC0 is 0, ICB 0,
the latch set; every other part is as it was.
That PC1 takes the old PC0, and the order of events, are the spec's decisions D17 and D26 (log 23, 24). -/
def Obligations.ResetComesBeforeEverything : Prop :=
  ∀ s : State, s.pins.extrst = true →
    step s = .next (State.nextPins { s with pc1 := s.pc0, pc0 := 0, w := withIcb s.w false, noint := true })

/-- R223, R221: while ICB is 0, or the request is down, or the latch is set, no interrupt is taken: the step fetches and runs
an instruction.
The order of events is the spec's decision D26 (log 24). -/
def Obligations.NoInterruptUnlessRequestedEnabledAndNotHeldOff : Prop :=
  ∀ s : State, s.pins.extrst = false → (s.icb = false ∨ s.pins.intreq = false ∨ s.noint = true) →
    step s = onNext State.nextPins (fetchAndRun exec s)

/-- R226: an instruction leaves the latch set exactly when its row is tagged, INTRPT and RESET set it, and while it is set the
step (unless reset is asserted) is an instruction, whatever is requested.
The meaning of the tag is the spec's decision D15 (log 24). -/
def Obligations.HoldOffIsSetExactlyByTaggedRows : Prop :=
  (∀ (i : Instr) (s t : State), exec i s = .next t → t.noint = tagged i) ∧
    (∀ s t : State, step s = .next t → (s.pins.extrst = true ∨ s.interruptDue = true) → t.noint = true) ∧
    ∀ s : State, s.noint = true → s.pins.extrst = false → step s = onNext State.nextPins (fetchAndRun exec s)

/-- R226, R262, the interrupt window: after a step that ran a tagged instruction, unless reset is asserted, the next step is
an instruction too, whatever the environment requests. -/
def Obligations.InterruptWindowAfterATaggedInstruction : Prop :=
  ∀ (s s' t : State) (i : Instr), s.pins.extrst = false → s.interruptDue = false →
    fetch s = .ok (i, s') → tagged i = true → step s = .next t → t.pins.extrst = false →
    step t = onNext State.nextPins (fetchAndRun exec t)

/-- R229, the handler's tail `EI; POP`: where those two bytes stand at PC0 and reset stays down, two steps later control is at
PC1 with ICB set, whatever is requested meanwhile, and the step after that is an instruction of the interrupted program.
The meaning of the tag is the spec's decision D15, the order of events D26 (log 24); the pin schedule is the model's (log 9). -/
def Obligations.EiPopReturnsBeforeTheNextInterrupt : Prop :=
  ∀ s : State, s.pins.extrst = false → s.interruptDue = false → (∀ p ∈ s.pinsAhead, p.extrst = false) →
    s.kindAt s.pc0 ≠ .absent → s.kindAt (s.pc0 + 1) ≠ .absent → s.byteAt s.pc0 = 0x1B → s.byteAt (s.pc0 + 1) = 0x1C →
    ∃ t u : State, step s = .next t ∧ step t = .next u ∧
      u = { s with pc0 := s.pc1, w := withIcb s.w true, noint := true, pins := u.pins, pinsAhead := s.pinsAhead.drop 2 } ∧
      step u = onNext State.nextPins (fetchAndRun exec u)

/-- R220, R65, R212: a step never faults, and it is refused exactly when it fetches an opcode byte that is undefined: one of
the 14, or 1F or 70..7F while ADMIT_UNLISTED is false.
That the model refuses is the spec's decision D19 (log 14). -/
def Obligations.StepStopsExactlyAtUndefinedOpcodes : Prop :=
  ∀ s : State, (∀ r, step s ≠ .fault r) ∧
    ∀ r, step s = .refused r ↔
      s.pins.extrst = false ∧ s.interruptDue = false ∧ r = .undefinedOpcode (s.memRead s.pc0).1 ∧
        ((s.memRead s.pc0).1 ∈ undefinedOpcodes ∨
          (s.platform.admitUnlisted = false ∧
            ((s.memRead s.pc0).1 = 0x1F ∨ (s.memRead s.pc0).1.toNat / 16 = 7)))

/-- R233: one mode. Every instruction may be executed in every state and completes; INC and LIS wherever they are admitted.
That there is one mode and no synchronous exception is the spec's decision D25 (log 14). -/
def Obligations.EveryInstructionCompletesInEveryState : Prop :=
  (∀ (i : Instr) (s : State), i.wellFormed = true → s.platform.admitUnlisted = true → ∃ t, exec i s = .next t) ∧
    ∀ (i : Instr) (s : State), i.wellFormed = true → i ≠ .inc → (∀ n, i ≠ .lis n) → ∃ t, exec i s = .next t

/-- R221, R53: an instruction is atomic with respect to the environment. Executing it commutes with any change of the pins,
now or later.
That the pins are sampled between instructions only is the spec's decision D26 (log 24); their schedule is the model's (log 9). -/
def Obligations.PinsDoNotReachInsideAnInstruction : Prop :=
  ∀ (i : Instr) (s : State) (p : Pins) (ahead : List Pins),
    exec i { s with pins := p, pinsAhead := ahead } =
      onNext (fun t => { t with pins := p, pinsAhead := ahead }) (exec i s)

/-! ### Invariants and whole-machine rules -/

/-- Every step keeps main memory in its canonical form, from every state that has it.
The canonical form is the model's choice (log 2); of the spec it has the 16-bit addresses (R40). -/
def Obligations.StepKeepsMemoryCanonical : Prop :=
  ∀ s t : State, s.Inv → step s = .next t → t.Inv

/-- The canonical form holds right after reset.
The canonical form, and that reset memory lists nothing, are the model's choices (log 2); of the spec the form has the 16-bit
addresses (R40). -/
def Obligations.ResetMemoryIsCanonical : Prop := State.reset.Inv

/-- R28: what the spec gives for the state right after reset. -/
def Obligations.ResetStartsAtZeroWithInterruptsOff : Prop :=
  State.reset.pc0 = 0x0000 ∧ State.reset.icb = false ∧ State.reset.noint = true

/-- The frame of every instruction: what its rule does not name, it leaves alone. Registers are named one by one, and so is
every byte of memory. -/
def Obligations.InstructionsWriteOnlyWhatTheirRulesName : Prop :=
  ∀ (i : Instr) (s t : State), exec i s = .next t → ∀ p : Part, p ∉ writes s i → Agrees s t p

/-- R44, R51, R113: a byte of main memory changes in a step only if that step runs ST, at DC0, in ram, and then it becomes A.
So rom and absent memory never change, and neither INTRPT nor RESET writes memory. -/
def Obligations.MemoryChangesOnlyByAStoreToRam : Prop :=
  ∀ (s t : State) (addr : Word), step s = .next t → t.byteAt addr ≠ s.byteAt addr →
    s.pins.extrst = false ∧ s.interruptDue = false ∧ (∃ s', fetch s = .ok (.st, s')) ∧
      addr = s.dc0 ∧ s.kindAt addr = .ram ∧ t.byteAt addr = s.a

/-- R16, R223: interrupts become permitted in a step only if it runs EI, or LR W,J with bit 4 of r[9] set. -/
def Obligations.IcbIsSetOnlyByEiOrLrWJ : Prop :=
  ∀ s t : State, step s = .next t → s.icb = false → t.icb = true →
    ∃ i s', fetch s = .ok (i, s') ∧ (i = .ei ∨ (i = .lrWJ ∧ (s.reg 9).toNat / 16 % 2 = 1))

/-- R23, R130: PC1 changes in a step only by PK, PI, LR P,K, INTRPT or RESET; DC1 only by XDC. -/
def Obligations.Pc1AndDc1HaveOnlyTheWritersNamed : Prop :=
  ∀ s t : State, step s = .next t →
    (t.pc1 ≠ s.pc1 → s.pins.extrst = true ∨ s.interruptDue = true ∨
      ∃ i s', fetch s = .ok (i, s') ∧ (i = .pk ∨ i = .lrPK ∨ ∃ x, i = .pi x)) ∧
    (t.dc1 ≠ s.dc1 → ∃ s', fetch s = .ok (.xdc, s'))

/-- R44, R47, R2: the events of the I/O space only grow, at their end, by at most one a step: a read, kept with the value the
environment answers, which A then holds, or a write, kept with the value of A. So the output history only grows. The open
parameters never change.
That the reads stand in one history with the writes is log 10, that the parameters stand in State is log 5. -/
def Obligations.OutputHistoryGrowsAndPlatformIsFixed : Prop :=
  ∀ s t : State, step s = .next t →
    (t.portEvents = s.portEvents ∨
      (∃ p, t.portEvents = s.portEvents ++ [.input p (portValue p s)] ∧ t.a = portValue p s) ∨
      ∃ p, t.portEvents = s.portEvents ++ [.output p s.a]) ∧
    (t.outputs = s.outputs ∨ ∃ p, t.outputs = s.outputs ++ [(p, s.a)]) ∧ t.platform = s.platform

/-! ### Memory and flags -/

/-- R51, R41: reading and writing ram, rom and absent memory.
The map is a parameter; draws and dropped writes are the spec's decision D22 (log 3, 4). -/
def Obligations.MemoryReadsAndWritesFollowTheMap : Prop :=
  ∀ (s : State) (x : Word) (v : Byte),
    (s.mem.find x.toNat = none → s.byteAt x = Config.launchByte x) ∧
    (s.kindAt x = .ram →
      (s.memWrite x v).memRead x = (v, s.memWrite x v) ∧ s.memRead x = (s.byteAt x, s) ∧
        s.memWrite x v = { s with mem := (s.memWrite x v).mem } ∧
        ∀ y, y ≠ x → (s.memWrite x v).byteAt y = s.byteAt y) ∧
    (s.kindAt x = .rom → s.memWrite x v = s ∧ s.memRead x = (s.byteAt x, s)) ∧
    (s.kindAt x = .absent → s.memWrite x v = s ∧
      s.memRead x = (Config.absentByte s.absentReads x, { s with absentReads := s.absentReads + 1 }))

/-- R50: a store into the instruction stream is what the next fetch reads, with nothing needed in between.
That the fetch sees stores at once is the spec's decision D21 (log 26), that ST stores at DC0 its decision D9 (log 21). -/
def Obligations.StoreIsSeenByTheNextFetch : Prop :=
  ∀ s : State, s.dc0 = s.pc0 + 1 → s.kindAt s.dc0 = .ram →
    ∃ t, exec .st s = .next t ∧ t.pc0 = s.dc0 ∧ (t.memRead t.pc0).1 = s.a

/-- R20 in numbers: the sum modulo 256, C the unsigned carry, O the signed overflow, Z a zero sum, S a sum whose top bit is
clear.
The spec marks R20 as general knowledge (D2; log 16). -/
def Obligations.AddFlagsIsArithmetic : Prop :=
  ∀ (x y : Byte) (cin : Bool),
    (addFlags x y cin).1.toNat = (x.toNat + y.toNat + cin.toNat) % 256 ∧
    ((addFlags x y cin).2.c = true ↔ 256 ≤ x.toNat + y.toNat + cin.toNat) ∧
    ((addFlags x y cin).2.o = true ↔
      x.toInt + y.toInt + cin.toNat < -128 ∨ 127 < x.toInt + y.toInt + cin.toNat) ∧
    ((addFlags x y cin).2.z = true ↔ (x.toNat + y.toNat + cin.toNat) % 256 = 0) ∧
    ((addFlags x y cin).2.s = true ↔ (x.toNat + y.toNat + cin.toNat) % 256 < 128)

/-- R21: LogicFlags.
The spec marks R21 as general knowledge (D2; log 16). -/
def Obligations.LogicFlagsClearOverflowAndCarry : Prop :=
  ∀ v : Byte, (logicFlags v).o = false ∧ (logicFlags v).c = false ∧ ((logicFlags v).z = true ↔ v.toNat = 0) ∧
    ((logicFlags v).s = true ↔ v.toNat < 128)

/-- R165: the F3850's DecAdd gives the decimal sum of two packed two-digit numbers when 0x66 has been added to one of them,
and C is the hundreds digit; the worked values of the rule.
The spec gives the function as the intended value of the parameter DecAdd, from general knowledge (D13; log 8). -/
def Obligations.DecimalAdditionIsDecimal : Prop :=
  (∀ p q : Nat, p < 100 → q < 100 →
    (decAddF3850 (packedDecimal p + 0x66) (packedDecimal q)).1 = packedDecimal ((p + q) % 100) ∧
      ((decAddF3850 (packedDecimal p + 0x66) (packedDecimal q)).2.c = true ↔ 100 ≤ p + q)) ∧
    (decAddF3850 0x8B 0x17).1 = 0x42 ∧ (decAddF3850 0xFF 0x01).1 = 0x00 ∧
    (decAddF3850 0x66 0x00).1 = 0x00 ∧ (decAddF3850 0x66 0x00).2.z = false

/-- R27: the register a scratchpad operand selects, its effect on ISAR, the codes, and the seven opcodes with field 15.
The operand codes are the spec's decision D3 (log 17). -/
def Obligations.ScratchpadOperandsResolve : Prop :=
  (∀ (r : ScratchOperand) (s : State), s.scratchRef r = (selected r s, stepped r s)) ∧
    (∀ (r : ScratchOperand), scratchField (BitVec.ofNat 8 (fieldOf r)) = r) ∧
    ∀ b ∈ ([0x3F, 0x4F, 0x5F, 0xCF, 0xDF, 0xEF, 0xFF] : List Byte), UndefinedByte b

/-! ### Accumulator-reference instructions -/

/-- R100 to R107: LR between A and the named scratchpad registers. -/
def Obligations.LrMovesAAndTheNamedRegisters : Prop :=
  ∀ s : State,
    Does .lrAKu [0x00] s (ends { s with a := s.reg 12 } 1) ∧
    Does .lrAKl [0x01] s (ends { s with a := s.reg 13 } 1) ∧
    Does .lrAQu [0x02] s (ends { s with a := s.reg 14 } 1) ∧
    Does .lrAQl [0x03] s (ends { s with a := s.reg 15 } 1) ∧
    DoesScratch .lrKuA [0x04] s (ends s 1) (regsWith s 12 s.a) ∧
    DoesScratch .lrKlA [0x05] s (ends s 1) (regsWith s 13 s.a) ∧
    DoesScratch .lrQuA [0x06] s (ends s 1) (regsWith s 14 s.a) ∧
    DoesScratch .lrQlA [0x07] s (ends s 1) (regsWith s 15 s.a)

/-- R108, R109: LR between A and ISAR.
Zero extension and truncation are the spec's decision D24 (log 25). -/
def Obligations.LrMovesAAndIsar : Prop :=
  ∀ s : State,
    Does .lrAIs [0x0A] s (ends { s with a := BitVec.ofNat 8 s.isar.toNat } 1) ∧
    Does .lrIsA [0x0B] s (ends { s with isar := BitVec.ofNat 6 (s.a.toNat % 64) } 1)

/-- R110, R111: LR between A and a selected scratchpad register, in every operand form. -/
def Obligations.LrMovesAAndASelectedRegister : Prop :=
  (∀ (r : ScratchOperand) (s : State),
    Does (.lrAR r) (opR 4 r) s (ends { stepped r s with a := s.reg (selected r s) } 1) ∧
    DoesScratch (.lrRA r) (opR 5 r) s (ends (stepped r s) 1) (regsWith s (selected r s) s.a)) ∧
    UndefinedByte 0x4F ∧ UndefinedByte 0x5F

/-- R112: LM.
That DC0 steps is the spec's decision D8 (log 21); that draws of absent memory are counted is the model's choice (log 4). -/
def Obligations.LmLoadsTheByteAtDc0 : Prop :=
  ∀ s : State, Does .lm [0x16] s (ends { afterData s with a := dataByte s } 1)

/-- R113: ST. Exactly the byte at DC0 becomes A, where it is ram; to rom or absent memory nothing but DC0 and PC0 changes.
The destination and the step of DC0 are the spec's decisions D9 and D8 (log 21). -/
def Obligations.StStoresAAtDc0 : Prop :=
  ∀ s : State,
    (∃ t, exec .st s = .next t ∧
      (∀ addr, t.byteAt addr = if addr = s.dc0 ∧ s.kindAt addr = .ram then s.a else s.byteAt addr) ∧
      t = ends { s with mem := t.mem, dc0 := s.dc0 + 1 } 1 ∧ (s.kindAt s.dc0 ≠ .ram → t.mem = s.mem)) ∧
    EncodedAs .st [0x17]

/-- R114 to R117: AS, ASD, NS, XS, in every operand form. -/
def Obligations.ScratchpadArithmeticAndLogic : Prop :=
  (∀ (r : ScratchOperand) (s : State),
    Does (.asR r) (opR 12 r) s (ends (intoA (stepped r s) (addFlags s.a (s.reg (selected r s)) false)) 1) ∧
    Does (.asdR r) (opR 13 r) s (ends (intoA (stepped r s) (decAdd s.platform.decAdd s.a (s.reg (selected r s)))) 1) ∧
    Does (.nsR r) (opR 15 r) s (ends (intoA (stepped r s) (logic (s.a &&& s.reg (selected r s)))) 1) ∧
    Does (.xsR r) (opR 14 r) s (ends (intoA (stepped r s) (logic (s.a ^^^ s.reg (selected r s)))) 1)) ∧
    UndefinedByte 0xCF ∧ UndefinedByte 0xDF ∧ UndefinedByte 0xFF ∧ UndefinedByte 0xEF

/-! ### Register-reference instructions -/

/-- R120, R121, R124 to R127: LR between the pairs K, H, Q and PC1, DC0. -/
def Obligations.LrMovesThePairs : Prop :=
  ∀ s : State,
    DoesScratch .lrKP [0x08] s (ends s 1) (regsWithPair s 12 13 s.pc1) ∧
    Does .lrPK [0x09] s (ends { s with pc1 := pairValue s 12 13 } 1) ∧
    DoesScratch .lrHDc [0x11] s (ends s 1) (regsWithPair s 10 11 s.dc0) ∧
    Does .lrDcH [0x10] s (ends { s with dc0 := pairValue s 10 11 } 1) ∧
    DoesScratch .lrQDc [0x0E] s (ends s 1) (regsWithPair s 14 15 s.dc0) ∧
    Does .lrDcQ [0x0F] s (ends { s with dc0 := pairValue s 14 15 } 1)

/-- R122, R123: PK and LR P0,Q.
The address PK saves is the spec's decision D14 (log 23). -/
def Obligations.PkCallsThroughKAndLrP0QJumpsThroughQ : Prop :=
  ∀ s : State,
    Does .pk [0x0C] s (endsTagged { s with pc1 := s.pc0 + 1 } (pairValue s 12 13)) ∧
    Does .lrP0Q [0x0D] s (endsTagged s (pairValue s 14 15))

/-- R128, R129: LR W,J loads all five bits and is tagged; LR J,W clears bits 7..5 of J.
The fit of 5 and 8 bits is the spec's decision D24 (log 25). -/
def Obligations.LrMovesWAndJ : Prop :=
  ∀ s : State,
    Does .lrWJ [0x1D] s (endsTagged { s with w := BitVec.ofNat 5 ((s.reg 9).toNat % 32) } (s.pc0 + 1)) ∧
    DoesScratch .lrJW [0x1E] s (ends s 1) (regsWith s 9 (BitVec.ofNat 8 s.w.toNat))

/-- R130: XDC. -/
def Obligations.XdcExchangesTheDataCounters : Prop :=
  ∀ s : State, Does .xdc [0x2C] s (ends { s with dc0 := s.dc1, dc1 := s.dc0 } 1)

/-- R131: DS adds 0xFF to the selected register: C is 1 unless it was 0, Z when it was 1, O when it was 0x80; A is left alone. -/
def Obligations.DsDecrementsASelectedRegister : Prop :=
  (∀ (r : ScratchOperand) (s : State),
    let v := s.reg (selected r s)
    let p := addFlags v 0xFF false
    DoesScratch (.ds r) (opR 3 r) s (ends { stepped r s with w := withFlags s.w p.2 } 1)
      (regsWith s (selected r s) p.1) ∧
    p.1.toNat = (v.toNat + 255) % 256 ∧ (p.2.c = true ↔ v ≠ 0) ∧ (p.2.z = true ↔ v = 1) ∧ (p.2.o = true ↔ v = 0x80)) ∧
    UndefinedByte 0x3F

/-! ### Shifts, arithmetic and logic -/

/-- R140 to R143: the shifts, as division and multiplication of A. -/
def Obligations.ShiftsAreLogical : Prop :=
  ∀ s : State,
    Does .sr1 [0x12] s (ends (intoA s (logic (BitVec.ofNat 8 (s.a.toNat / 2)))) 1) ∧
    Does .sl1 [0x13] s (ends (intoA s (logic (BitVec.ofNat 8 (s.a.toNat * 2 % 256)))) 1) ∧
    Does .sr4 [0x14] s (ends (intoA s (logic (BitVec.ofNat 8 (s.a.toNat / 16)))) 1) ∧
    Does .sl4 [0x15] s (ends (intoA s (logic (BitVec.ofNat 8 (s.a.toNat * 16 % 256)))) 1)

/-- R150, R151: COM, and LNK, which reads C before it is written.
That COM is the one's complement is the spec's decision D30 (log 22). -/
def Obligations.ComComplementsAndLnkAddsTheCarry : Prop :=
  ∀ s : State,
    Does .com [0x18] s (ends (intoA s (logic (BitVec.ofNat 8 (255 - s.a.toNat)))) 1) ∧
    Does .lnk [0x19] s (ends (intoA s (addFlags s.a (BitVec.ofNat 8 (s.w.toNat / 2 % 2)) false)) 1)

/-- R152 to R156: LI, NI, OI, XI, AI. -/
def Obligations.ImmediateInstructionsWorkOnA : Prop :=
  ∀ (s : State) (aa : Byte),
    Does (.li aa) [0x20, aa] s (ends { s with a := aa } 2) ∧
    Does (.ni aa) [0x21, aa] s (ends (intoA s (logic (s.a &&& aa))) 2) ∧
    Does (.oi aa) [0x22, aa] s (ends (intoA s (logic (s.a ||| aa))) 2) ∧
    Does (.xi aa) [0x23, aa] s (ends (intoA s (logic (s.a ^^^ aa))) 2) ∧
    Does (.ai aa) [0x24, aa] s (ends (intoA s (addFlags s.a aa false)) 2)

/-- R157: CI, for both values of CI_WRITES_A: the flags of aa - A; A takes the difference exactly when the parameter is true.
Z when they are equal, C when aa is not below A, S when the difference has bit 7 clear.
Whether A is written is a parameter, the spec's decision D11 (log 6). -/
def Obligations.CiComparesTheImmediateWithA : Prop :=
  ∀ (s : State) (aa : Byte),
    let p := addFlags aa (~~~s.a) true
    Does (.ci aa) [0x25, aa] s
      (ends { s with a := if s.platform.ciWritesA = true then p.1 else s.a, w := withFlags s.w p.2 } 2) ∧
    p.1 = aa - s.a ∧ (p.2.z = true ↔ aa = s.a) ∧ (p.2.c = true ↔ s.a.toNat ≤ aa.toNat) ∧
    (p.2.s = true ↔ (aa - s.a).toNat < 128)

/-- R158 to R163: AM, AMD, NM, OM, XM, CM on the byte at DC0, which then steps.
What CM computes is the spec's decision D12 (log 22); that a read of absent memory is a draw is its decision D22, and that
draws are counted the model's choice (log 4). -/
def Obligations.MemoryOperandInstructions : Prop :=
  ∀ s : State,
    Does .am [0x88] s (ends (intoA (afterData s) (addFlags s.a (dataByte s) false)) 1) ∧
    Does .amd [0x89] s (ends (intoA (afterData s) (decAdd s.platform.decAdd s.a (dataByte s))) 1) ∧
    Does .nm [0x8A] s (ends (intoA (afterData s) (logic (s.a &&& dataByte s))) 1) ∧
    Does .om [0x8B] s (ends (intoA (afterData s) (logic (s.a ||| dataByte s))) 1) ∧
    Does .xm [0x8C] s (ends (intoA (afterData s) (logic (s.a ^^^ dataByte s))) 1) ∧
    Does .cm [0x8D] s
      (ends { afterData s with w := withFlags s.w (addFlags (dataByte s) (~~~s.a) true).2 } 1)

/-- R164: ADC adds A, as a signed byte, to DC0.
The meaning of ADC is the spec's decision D10 (log 21). -/
def Obligations.AdcAddsSignedAToDc0 : Prop :=
  ∀ s : State, Does .adc [0x8E] s (ends { s with dc0 := BitVec.ofInt 16 ((s.dc0.toNat : Int) + s.a.toInt) } 1)

/-! ### Flags, ISAR halves, branches, calls -/

/-- R170, R171: DI and EI. -/
def Obligations.DiAndEiSetIcb : Prop :=
  ∀ s : State,
    Does .di [0x1A] s (ends { s with w := withIcb s.w false } 1) ∧
    Does .ei [0x1B] s (endsTagged { s with w := withIcb s.w true } (s.pc0 + 1))

/-- R172, R173: LISU and LISL write one half of ISAR each. -/
def Obligations.LisuAndLislWriteHalvesOfIsar : Prop :=
  ∀ (s : State) (e : BitVec 3),
    Does (.lisu e) [BitVec.ofNat 8 (0x60 + e.toNat)] s
      (ends { s with isar := BitVec.ofNat 6 (8 * e.toNat + s.isar.toNat % 8) } 1) ∧
    Does (.lisl e) [BitVec.ofNat 8 (0x68 + e.toNat)] s
      (ends { s with isar := BitVec.ofNat 6 (s.isar.toNat / 8 * 8 + e.toNat) } 1)

/-- R174, R188, R187: BT branches when some tested flag is 1, BR t when every tested flag is 0, BR7 unless ISAR's lower half
is 7.
The AND and the four mask bits of BT and BR t, and the signed displacement, are the spec's decisions D4, D5 and D6 (log 18). -/
def Obligations.ConditionalBranches : Prop :=
  (∀ (s : State) (e : BitVec 3) (ii : Byte),
    Does (.bt e ii) [BitVec.ofNat 8 (0x80 + e.toNat), ii] s
      { s with noint := false,
               pc0 := if (e.getLsbD 0 && s.flagS || e.getLsbD 1 && s.flagC || e.getLsbD 2 && s.flagZ) = true
                 then branchTo s ii else s.pc0 + 2 }) ∧
    (∀ (s : State) (t : BitVec 4) (ii : Byte),
      Does (.brT t ii) [BitVec.ofNat 8 (0x90 + t.toNat), ii] s
        { s with noint := false,
                 pc0 := if (t.getLsbD 0 && s.flagS || t.getLsbD 1 && s.flagC || t.getLsbD 2 && s.flagZ ||
                     t.getLsbD 3 && s.flagO) = true
                   then s.pc0 + 2 else branchTo s ii }) ∧
    ∀ (s : State) (ii : Byte),
      Does (.br7 ii) [0x8F, ii] s
        { s with noint := false, pc0 := if s.isar.toNat % 8 = 7 then s.pc0 + 2 else branchTo s ii }

/-- R180, R181, R185, R186: PI, POP, JMP and DCI. PI and JMP leave the upper byte of the target in A.
The address PI saves is the spec's decision D14 (log 23). -/
def Obligations.CallReturnJumpAndDci : Prop :=
  ∀ (s : State) (iijj : Word),
    Does (.pi iijj) [0x28, upperByte iijj, lowerByte iijj] s
      (endsTagged { s with a := upperByte iijj, pc1 := s.pc0 + 3 } iijj) ∧
    Does .pop [0x1C] s (endsTagged s s.pc1) ∧
    Does (.jmp iijj) [0x29, upperByte iijj, lowerByte iijj] s (endsTagged { s with a := upperByte iijj } iijj) ∧
    Does (.dci iijj) [0x2A, upperByte iijj, lowerByte iijj] s (endsTagged { s with dc0 := iijj } (s.pc0 + 3))

/-! ### Input, output and the rest -/

/-- R195, R197, R198: IN, INS 0|1 and INS n read a port into A; R44, R47: the read is kept as an event with its port and
value, and the output history stays.
How the environment's answers are held, used up and counted, and that reads and writes stand in one history, is the model's
choice (log 10). -/
def Obligations.InputInstructionsReadThePort : Prop :=
  (∀ (s : State) (pp : Byte),
    Does (.inPort pp) [0x26, pp] s (ends (intoA (afterPort pp s) (logic (portValue pp s))) 2)) ∧
    (∀ (s : State) (p : BitVec 1),
      let port := BitVec.ofNat 8 p.toNat
      Does (.ins01 p) [BitVec.ofNat 8 (0xA0 + p.toNat)] s
        (ends (intoA (afterPort port s) (logic (portValue port s))) 1)) ∧
    (∀ (s : State) (n : BitVec 4), 4 ≤ n.toNat →
      let port := BitVec.ofNat 8 n.toNat
      Does (.insN n) [BitVec.ofNat 8 (0xA0 + n.toNat)] s
        (ends (intoA (afterPort port s) (logic (portValue port s))) 1)) ∧
    ∀ (s : State) (p : Byte),
      (afterPort p s).inputs = s.inputs ++ [(p, portValue p s)] ∧ (afterPort p s).outputs = s.outputs

/-- R196, R199, R200: OUT, OUTS 0|1 and OUTS n add one event to the output history; OUTS 0|1 is not tagged.
That OUTS n writes A is the spec's decision D31 (log 26); that reads and writes stand in one history is the model's choice
(log 10). -/
def Obligations.OutputInstructionsWriteThePort : Prop :=
  (∀ (s : State) (pp : Byte), Does (.outPort pp) [0x27, pp] s (endsTagged (afterWrite pp s) (s.pc0 + 2))) ∧
    (∀ (s : State) (p : BitVec 1),
      Does (.outs01 p) [BitVec.ofNat 8 (0xB0 + p.toNat)] s (ends (afterWrite (BitVec.ofNat 8 p.toNat) s) 1)) ∧
    (∀ (s : State) (n : BitVec 4), 4 ≤ n.toNat →
      Does (.outsN n) [BitVec.ofNat 8 (0xB0 + n.toNat)] s
        (endsTagged (afterWrite (BitVec.ofNat 8 n.toNat) s) (s.pc0 + 1))) ∧
    ∀ (s : State) (p : Byte),
      (afterWrite p s).outputs = s.outputs ++ [(p, s.a)] ∧ (afterWrite p s).inputs = s.inputs

/-- R201: the opcodes of INS and OUTS with port 2 or 3 are undefined; IN and OUT reach those ports.
How the environment's answers and the port events are held is the model's choice (log 10). -/
def Obligations.ShortPortInstructionsHaveNoPorts2And3 : Prop :=
  (∀ b ∈ ([0xA2, 0xA3, 0xB2, 0xB3] : List Byte), UndefinedByte b) ∧
    ∀ (s : State) (p : Byte), p = 2 ∨ p = 3 →
      exec (.inPort p) s = .next (ends (intoA (afterPort p s) (logic (portValue p s))) 2) ∧
      exec (.outPort p) s = .next (endsTagged (afterWrite p s) (s.pc0 + 2))

/-- R205: NOP. -/
def Obligations.NopOnlyAdvances : Prop := ∀ s : State, Does .nop [0x2B] s (ends s 1)

/-- R210, R211: INC and LIS where ADMIT_UNLISTED is true; R212: refused, under their opcodes, where it is false.
The spec marks R210 and R211 as general knowledge; that a parameter ADMIT_UNLISTED decides is its decision D28 (log 7), and
that the refused case refuses its decision D19 (log 14). -/
def Obligations.UnlistedInstructionsRunWhenAdmitted : Prop :=
  ∀ (s : State) (n : BitVec 4),
    (s.platform.admitUnlisted = true →
      Does .inc [0x1F] s (ends (intoA s (addFlags s.a 1 false)) 1) ∧
      Does (.lis n) [BitVec.ofNat 8 (0x70 + n.toNat)] s (ends { s with a := BitVec.ofNat 8 n.toNat } 1)) ∧
    (s.platform.admitUnlisted = false →
      exec .inc s = .refused (.undefinedOpcode 0x1F) ∧
      exec (.lis n) s = .refused (.undefinedOpcode (BitVec.ofNat 8 (0x70 + n.toNat))))
end

