-- ==== Sys2Proof/Laws/Decode.lean ====
section
/-! SUPPORT. What the decoder answers once the row is known. -/

namespace Sys2Proof

theorem decode_undefined {b : Byte} (rest : List Byte) (h : rowOf b = none) :
    decode (b :: rest) = .error (.undefinedOpcode b) := by
  simp [decode, h]

theorem decode_row_one {b : Byte} {row : OpRow} (rest : List Byte) (h : rowOf b = some row) (hl : row.length = 1) :
    decode (b :: rest) = .ok (row.build b 0 0, rest) := by
  simp only [decode, h, hl]

theorem decode_row_two {b : Byte} {row : OpRow} (b1 : Byte) (rest : List Byte) (h : rowOf b = some row)
    (hl : row.length = 2) : decode (b :: b1 :: rest) = .ok (row.build b b1 0, rest) := by
  simp only [decode, h, hl]

theorem decode_row_three {b : Byte} {row : OpRow} (b1 b2 : Byte) (rest : List Byte) (h : rowOf b = some row)
    (hl : row.length = 3) : decode (b :: b1 :: b2 :: rest) = .ok (row.build b b1 b2, rest) := by
  simp only [decode, h, hl]

/-- A row that an opcode byte selects is a row of the table. -/
theorem rowOf_mem {b : Byte} {row : OpRow} (h : rowOf b = some row) : row ∈ opRows ∧ row.selects b = true :=
  ⟨List.mem_of_find?_eq_some h, List.find?_some (p := fun r : OpRow => r.selects b) h⟩

end Sys2Proof
end

