-- ==== Sys2Proof/Laws/Memory.lean ====
section
/-! SUPPORT. Main memory as data: a read after a write, and the canonical form. -/

namespace Sys2Proof.Machine

@[simp] theorem Memory.find_put_self (a : Nat) (b : Byte) (m : Memory) : (m.put a b).find a = some b := by
  induction m with
  | nil => simp [Memory.put, Memory.find]
  | cons c m ih =>
    obtain ⟨x, d⟩ := c
    by_cases h1 : a < x
    · simp [Memory.put, h1, Memory.find]
    · by_cases h2 : a = x
      · simp [Memory.put, h2, Memory.find]
      · simpa [Memory.put, h1, h2, Memory.find] using ih

theorem Memory.find_put_other {a c : Nat} (h : c ≠ a) (b : Byte) (m : Memory) : (m.put a b).find c = m.find c := by
  induction m with
  | nil => simp [Memory.put, Memory.find, h]
  | cons e m ih =>
    obtain ⟨x, d⟩ := e
    by_cases h1 : a < x
    · simp [Memory.put, h1, Memory.find, h]
    · by_cases h2 : a = x
      · subst h2; simp [Memory.put, Memory.find, h]
      · simp [Memory.put, h1, h2, Memory.find, ih]

/-- A write keeps the order, from any bound that the address meets. -/
theorem Memory.risesFrom_put {lo a : Nat} (b : Byte) {m : Memory} (ha : a < 65536) (hlo : lo ≤ a)
    (h : m.risesFrom lo = true) : (m.put a b).risesFrom lo = true := by
  induction m generalizing lo with
  | nil => simp [Memory.put, Memory.risesFrom, ha, hlo]
  | cons c m ih =>
    obtain ⟨x, d⟩ := c
    simp only [Memory.risesFrom, Bool.and_eq_true, decide_eq_true_eq] at h
    obtain ⟨⟨hx, hx'⟩, hm⟩ := h
    by_cases h1 : a < x
    · simp only [Memory.put, h1, if_true, Memory.risesFrom, Bool.and_eq_true, decide_eq_true_eq]
      exact ⟨⟨hlo, ha⟩, ⟨by omega, hx'⟩, hm⟩
    · by_cases h2 : a = x
      · subst h2
        simp only [Memory.put, lt_irrefl, if_false, if_true, Memory.risesFrom, Bool.and_eq_true, decide_eq_true_eq]
        exact ⟨⟨hlo, ha⟩, hm⟩
      · simp only [Memory.put, h1, h2, if_false, Memory.risesFrom, Bool.and_eq_true, decide_eq_true_eq]
        exact ⟨⟨hx, hx'⟩, ih (by omega) hm⟩

/-- The one write operation keeps the canonical form. -/
theorem Memory.wf_put {m : Memory} (addr : Word) (b : Byte) (h : m.wf = true) : (m.put addr.toNat b).wf = true :=
  Memory.risesFrom_put b addr.isLt (Nat.zero_le _) h

@[simp] theorem Memory.wf_nil : Memory.wf [] = true := rfl

end Sys2Proof.Machine
end

