-- ==== Sys2Proof/Laws/State.lean ====
section
/-! SUPPORT. One lemma for each field of State under each update: no later proof unfolds a record update. -/

namespace Sys2Proof.Machine

variable (s : State)

/-! ### setA -/

@[simp] theorem State.setA_a (v : Byte) : (s.setA v).a = v := rfl
@[simp] theorem State.setA_isar (v : Byte) : (s.setA v).isar = s.isar := rfl
@[simp] theorem State.setA_w (v : Byte) : (s.setA v).w = s.w := rfl
@[simp] theorem State.setA_dc0 (v : Byte) : (s.setA v).dc0 = s.dc0 := rfl
@[simp] theorem State.setA_dc1 (v : Byte) : (s.setA v).dc1 = s.dc1 := rfl
@[simp] theorem State.setA_pc0 (v : Byte) : (s.setA v).pc0 = s.pc0 := rfl
@[simp] theorem State.setA_pc1 (v : Byte) : (s.setA v).pc1 = s.pc1 := rfl
@[simp] theorem State.setA_scratch (v : Byte) : (s.setA v).scratch = s.scratch := rfl
@[simp] theorem State.setA_noint (v : Byte) : (s.setA v).noint = s.noint := rfl
@[simp] theorem State.setA_mem (v : Byte) : (s.setA v).mem = s.mem := rfl
@[simp] theorem State.setA_portEvents (v : Byte) : (s.setA v).portEvents = s.portEvents := rfl
@[simp] theorem State.setA_pins (v : Byte) : (s.setA v).pins = s.pins := rfl
@[simp] theorem State.setA_pinsAhead (v : Byte) : (s.setA v).pinsAhead = s.pinsAhead := rfl
@[simp] theorem State.setA_portAnswers (v : Byte) : (s.setA v).portAnswers = s.portAnswers := rfl
@[simp] theorem State.setA_absentReads (v : Byte) : (s.setA v).absentReads = s.absentReads := rfl
@[simp] theorem State.setA_platform (v : Byte) : (s.setA v).platform = s.platform := rfl
@[simp] theorem State.setA_byteAt (v : Byte) (x : Word) : (s.setA v).byteAt x = s.byteAt x := rfl
@[simp] theorem State.setA_kindAt (v : Byte) (x : Word) : (s.setA v).kindAt x = s.kindAt x := rfl
@[simp] theorem State.setA_inputs (v : Byte) : (s.setA v).inputs = s.inputs := rfl
@[simp] theorem State.setA_outputs (v : Byte) : (s.setA v).outputs = s.outputs := rfl
@[simp] theorem State.setA_portReads (v : Byte) : (s.setA v).portReads = s.portReads := rfl
@[simp] theorem State.setA_reg (v : Byte) (j : ScratchIndex) : (s.setA v).reg j = s.reg j := rfl
@[simp] theorem State.setA_icb (v : Byte) : (s.setA v).icb = s.icb := rfl
@[simp] theorem State.setA_flags (v : Byte) : (s.setA v).flags = s.flags := rfl

/-! ### setIsar -/

@[simp] theorem State.setIsar_a (v : ScratchIndex) : (s.setIsar v).a = s.a := rfl
@[simp] theorem State.setIsar_isar (v : ScratchIndex) : (s.setIsar v).isar = v := rfl
@[simp] theorem State.setIsar_w (v : ScratchIndex) : (s.setIsar v).w = s.w := rfl
@[simp] theorem State.setIsar_dc0 (v : ScratchIndex) : (s.setIsar v).dc0 = s.dc0 := rfl
@[simp] theorem State.setIsar_dc1 (v : ScratchIndex) : (s.setIsar v).dc1 = s.dc1 := rfl
@[simp] theorem State.setIsar_pc0 (v : ScratchIndex) : (s.setIsar v).pc0 = s.pc0 := rfl
@[simp] theorem State.setIsar_pc1 (v : ScratchIndex) : (s.setIsar v).pc1 = s.pc1 := rfl
@[simp] theorem State.setIsar_scratch (v : ScratchIndex) : (s.setIsar v).scratch = s.scratch := rfl
@[simp] theorem State.setIsar_noint (v : ScratchIndex) : (s.setIsar v).noint = s.noint := rfl
@[simp] theorem State.setIsar_mem (v : ScratchIndex) : (s.setIsar v).mem = s.mem := rfl
@[simp] theorem State.setIsar_portEvents (v : ScratchIndex) : (s.setIsar v).portEvents = s.portEvents := rfl
@[simp] theorem State.setIsar_pins (v : ScratchIndex) : (s.setIsar v).pins = s.pins := rfl
@[simp] theorem State.setIsar_pinsAhead (v : ScratchIndex) : (s.setIsar v).pinsAhead = s.pinsAhead := rfl
@[simp] theorem State.setIsar_portAnswers (v : ScratchIndex) : (s.setIsar v).portAnswers = s.portAnswers := rfl
@[simp] theorem State.setIsar_absentReads (v : ScratchIndex) : (s.setIsar v).absentReads = s.absentReads := rfl
@[simp] theorem State.setIsar_platform (v : ScratchIndex) : (s.setIsar v).platform = s.platform := rfl
@[simp] theorem State.setIsar_byteAt (v : ScratchIndex) (x : Word) : (s.setIsar v).byteAt x = s.byteAt x := rfl
@[simp] theorem State.setIsar_kindAt (v : ScratchIndex) (x : Word) : (s.setIsar v).kindAt x = s.kindAt x := rfl
@[simp] theorem State.setIsar_inputs (v : ScratchIndex) : (s.setIsar v).inputs = s.inputs := rfl
@[simp] theorem State.setIsar_outputs (v : ScratchIndex) : (s.setIsar v).outputs = s.outputs := rfl
@[simp] theorem State.setIsar_portReads (v : ScratchIndex) : (s.setIsar v).portReads = s.portReads := rfl
@[simp] theorem State.setIsar_reg (v : ScratchIndex) (j : ScratchIndex) : (s.setIsar v).reg j = s.reg j := rfl
@[simp] theorem State.setIsar_icb (v : ScratchIndex) : (s.setIsar v).icb = s.icb := rfl
@[simp] theorem State.setIsar_flags (v : ScratchIndex) : (s.setIsar v).flags = s.flags := rfl

/-! ### setW -/

@[simp] theorem State.setW_a (v : BitVec 5) : (s.setW v).a = s.a := rfl
@[simp] theorem State.setW_isar (v : BitVec 5) : (s.setW v).isar = s.isar := rfl
@[simp] theorem State.setW_w (v : BitVec 5) : (s.setW v).w = v := rfl
@[simp] theorem State.setW_dc0 (v : BitVec 5) : (s.setW v).dc0 = s.dc0 := rfl
@[simp] theorem State.setW_dc1 (v : BitVec 5) : (s.setW v).dc1 = s.dc1 := rfl
@[simp] theorem State.setW_pc0 (v : BitVec 5) : (s.setW v).pc0 = s.pc0 := rfl
@[simp] theorem State.setW_pc1 (v : BitVec 5) : (s.setW v).pc1 = s.pc1 := rfl
@[simp] theorem State.setW_scratch (v : BitVec 5) : (s.setW v).scratch = s.scratch := rfl
@[simp] theorem State.setW_noint (v : BitVec 5) : (s.setW v).noint = s.noint := rfl
@[simp] theorem State.setW_mem (v : BitVec 5) : (s.setW v).mem = s.mem := rfl
@[simp] theorem State.setW_portEvents (v : BitVec 5) : (s.setW v).portEvents = s.portEvents := rfl
@[simp] theorem State.setW_pins (v : BitVec 5) : (s.setW v).pins = s.pins := rfl
@[simp] theorem State.setW_pinsAhead (v : BitVec 5) : (s.setW v).pinsAhead = s.pinsAhead := rfl
@[simp] theorem State.setW_portAnswers (v : BitVec 5) : (s.setW v).portAnswers = s.portAnswers := rfl
@[simp] theorem State.setW_absentReads (v : BitVec 5) : (s.setW v).absentReads = s.absentReads := rfl
@[simp] theorem State.setW_platform (v : BitVec 5) : (s.setW v).platform = s.platform := rfl
@[simp] theorem State.setW_byteAt (v : BitVec 5) (x : Word) : (s.setW v).byteAt x = s.byteAt x := rfl
@[simp] theorem State.setW_kindAt (v : BitVec 5) (x : Word) : (s.setW v).kindAt x = s.kindAt x := rfl
@[simp] theorem State.setW_inputs (v : BitVec 5) : (s.setW v).inputs = s.inputs := rfl
@[simp] theorem State.setW_outputs (v : BitVec 5) : (s.setW v).outputs = s.outputs := rfl
@[simp] theorem State.setW_portReads (v : BitVec 5) : (s.setW v).portReads = s.portReads := rfl
@[simp] theorem State.setW_reg (v : BitVec 5) (j : ScratchIndex) : (s.setW v).reg j = s.reg j := rfl

/-! ### setDc0 -/

@[simp] theorem State.setDc0_a (v : Word) : (s.setDc0 v).a = s.a := rfl
@[simp] theorem State.setDc0_isar (v : Word) : (s.setDc0 v).isar = s.isar := rfl
@[simp] theorem State.setDc0_w (v : Word) : (s.setDc0 v).w = s.w := rfl
@[simp] theorem State.setDc0_dc0 (v : Word) : (s.setDc0 v).dc0 = v := rfl
@[simp] theorem State.setDc0_dc1 (v : Word) : (s.setDc0 v).dc1 = s.dc1 := rfl
@[simp] theorem State.setDc0_pc0 (v : Word) : (s.setDc0 v).pc0 = s.pc0 := rfl
@[simp] theorem State.setDc0_pc1 (v : Word) : (s.setDc0 v).pc1 = s.pc1 := rfl
@[simp] theorem State.setDc0_scratch (v : Word) : (s.setDc0 v).scratch = s.scratch := rfl
@[simp] theorem State.setDc0_noint (v : Word) : (s.setDc0 v).noint = s.noint := rfl
@[simp] theorem State.setDc0_mem (v : Word) : (s.setDc0 v).mem = s.mem := rfl
@[simp] theorem State.setDc0_portEvents (v : Word) : (s.setDc0 v).portEvents = s.portEvents := rfl
@[simp] theorem State.setDc0_pins (v : Word) : (s.setDc0 v).pins = s.pins := rfl
@[simp] theorem State.setDc0_pinsAhead (v : Word) : (s.setDc0 v).pinsAhead = s.pinsAhead := rfl
@[simp] theorem State.setDc0_portAnswers (v : Word) : (s.setDc0 v).portAnswers = s.portAnswers := rfl
@[simp] theorem State.setDc0_absentReads (v : Word) : (s.setDc0 v).absentReads = s.absentReads := rfl
@[simp] theorem State.setDc0_platform (v : Word) : (s.setDc0 v).platform = s.platform := rfl
@[simp] theorem State.setDc0_byteAt (v : Word) (x : Word) : (s.setDc0 v).byteAt x = s.byteAt x := rfl
@[simp] theorem State.setDc0_kindAt (v : Word) (x : Word) : (s.setDc0 v).kindAt x = s.kindAt x := rfl
@[simp] theorem State.setDc0_inputs (v : Word) : (s.setDc0 v).inputs = s.inputs := rfl
@[simp] theorem State.setDc0_outputs (v : Word) : (s.setDc0 v).outputs = s.outputs := rfl
@[simp] theorem State.setDc0_portReads (v : Word) : (s.setDc0 v).portReads = s.portReads := rfl
@[simp] theorem State.setDc0_reg (v : Word) (j : ScratchIndex) : (s.setDc0 v).reg j = s.reg j := rfl
@[simp] theorem State.setDc0_icb (v : Word) : (s.setDc0 v).icb = s.icb := rfl
@[simp] theorem State.setDc0_flags (v : Word) : (s.setDc0 v).flags = s.flags := rfl

/-! ### setDc1 -/

@[simp] theorem State.setDc1_a (v : Word) : (s.setDc1 v).a = s.a := rfl
@[simp] theorem State.setDc1_isar (v : Word) : (s.setDc1 v).isar = s.isar := rfl
@[simp] theorem State.setDc1_w (v : Word) : (s.setDc1 v).w = s.w := rfl
@[simp] theorem State.setDc1_dc0 (v : Word) : (s.setDc1 v).dc0 = s.dc0 := rfl
@[simp] theorem State.setDc1_dc1 (v : Word) : (s.setDc1 v).dc1 = v := rfl
@[simp] theorem State.setDc1_pc0 (v : Word) : (s.setDc1 v).pc0 = s.pc0 := rfl
@[simp] theorem State.setDc1_pc1 (v : Word) : (s.setDc1 v).pc1 = s.pc1 := rfl
@[simp] theorem State.setDc1_scratch (v : Word) : (s.setDc1 v).scratch = s.scratch := rfl
@[simp] theorem State.setDc1_noint (v : Word) : (s.setDc1 v).noint = s.noint := rfl
@[simp] theorem State.setDc1_mem (v : Word) : (s.setDc1 v).mem = s.mem := rfl
@[simp] theorem State.setDc1_portEvents (v : Word) : (s.setDc1 v).portEvents = s.portEvents := rfl
@[simp] theorem State.setDc1_pins (v : Word) : (s.setDc1 v).pins = s.pins := rfl
@[simp] theorem State.setDc1_pinsAhead (v : Word) : (s.setDc1 v).pinsAhead = s.pinsAhead := rfl
@[simp] theorem State.setDc1_portAnswers (v : Word) : (s.setDc1 v).portAnswers = s.portAnswers := rfl
@[simp] theorem State.setDc1_absentReads (v : Word) : (s.setDc1 v).absentReads = s.absentReads := rfl
@[simp] theorem State.setDc1_platform (v : Word) : (s.setDc1 v).platform = s.platform := rfl
@[simp] theorem State.setDc1_byteAt (v : Word) (x : Word) : (s.setDc1 v).byteAt x = s.byteAt x := rfl
@[simp] theorem State.setDc1_kindAt (v : Word) (x : Word) : (s.setDc1 v).kindAt x = s.kindAt x := rfl
@[simp] theorem State.setDc1_inputs (v : Word) : (s.setDc1 v).inputs = s.inputs := rfl
@[simp] theorem State.setDc1_outputs (v : Word) : (s.setDc1 v).outputs = s.outputs := rfl
@[simp] theorem State.setDc1_portReads (v : Word) : (s.setDc1 v).portReads = s.portReads := rfl
@[simp] theorem State.setDc1_reg (v : Word) (j : ScratchIndex) : (s.setDc1 v).reg j = s.reg j := rfl
@[simp] theorem State.setDc1_icb (v : Word) : (s.setDc1 v).icb = s.icb := rfl
@[simp] theorem State.setDc1_flags (v : Word) : (s.setDc1 v).flags = s.flags := rfl

/-! ### setPc0 -/

@[simp] theorem State.setPc0_a (v : Word) : (s.setPc0 v).a = s.a := rfl
@[simp] theorem State.setPc0_isar (v : Word) : (s.setPc0 v).isar = s.isar := rfl
@[simp] theorem State.setPc0_w (v : Word) : (s.setPc0 v).w = s.w := rfl
@[simp] theorem State.setPc0_dc0 (v : Word) : (s.setPc0 v).dc0 = s.dc0 := rfl
@[simp] theorem State.setPc0_dc1 (v : Word) : (s.setPc0 v).dc1 = s.dc1 := rfl
@[simp] theorem State.setPc0_pc0 (v : Word) : (s.setPc0 v).pc0 = v := rfl
@[simp] theorem State.setPc0_pc1 (v : Word) : (s.setPc0 v).pc1 = s.pc1 := rfl
@[simp] theorem State.setPc0_scratch (v : Word) : (s.setPc0 v).scratch = s.scratch := rfl
@[simp] theorem State.setPc0_noint (v : Word) : (s.setPc0 v).noint = s.noint := rfl
@[simp] theorem State.setPc0_mem (v : Word) : (s.setPc0 v).mem = s.mem := rfl
@[simp] theorem State.setPc0_portEvents (v : Word) : (s.setPc0 v).portEvents = s.portEvents := rfl
@[simp] theorem State.setPc0_pins (v : Word) : (s.setPc0 v).pins = s.pins := rfl
@[simp] theorem State.setPc0_pinsAhead (v : Word) : (s.setPc0 v).pinsAhead = s.pinsAhead := rfl
@[simp] theorem State.setPc0_portAnswers (v : Word) : (s.setPc0 v).portAnswers = s.portAnswers := rfl
@[simp] theorem State.setPc0_absentReads (v : Word) : (s.setPc0 v).absentReads = s.absentReads := rfl
@[simp] theorem State.setPc0_platform (v : Word) : (s.setPc0 v).platform = s.platform := rfl
@[simp] theorem State.setPc0_byteAt (v : Word) (x : Word) : (s.setPc0 v).byteAt x = s.byteAt x := rfl
@[simp] theorem State.setPc0_kindAt (v : Word) (x : Word) : (s.setPc0 v).kindAt x = s.kindAt x := rfl
@[simp] theorem State.setPc0_inputs (v : Word) : (s.setPc0 v).inputs = s.inputs := rfl
@[simp] theorem State.setPc0_outputs (v : Word) : (s.setPc0 v).outputs = s.outputs := rfl
@[simp] theorem State.setPc0_portReads (v : Word) : (s.setPc0 v).portReads = s.portReads := rfl
@[simp] theorem State.setPc0_reg (v : Word) (j : ScratchIndex) : (s.setPc0 v).reg j = s.reg j := rfl
@[simp] theorem State.setPc0_icb (v : Word) : (s.setPc0 v).icb = s.icb := rfl
@[simp] theorem State.setPc0_flags (v : Word) : (s.setPc0 v).flags = s.flags := rfl

/-! ### setPc1 -/

@[simp] theorem State.setPc1_a (v : Word) : (s.setPc1 v).a = s.a := rfl
@[simp] theorem State.setPc1_isar (v : Word) : (s.setPc1 v).isar = s.isar := rfl
@[simp] theorem State.setPc1_w (v : Word) : (s.setPc1 v).w = s.w := rfl
@[simp] theorem State.setPc1_dc0 (v : Word) : (s.setPc1 v).dc0 = s.dc0 := rfl
@[simp] theorem State.setPc1_dc1 (v : Word) : (s.setPc1 v).dc1 = s.dc1 := rfl
@[simp] theorem State.setPc1_pc0 (v : Word) : (s.setPc1 v).pc0 = s.pc0 := rfl
@[simp] theorem State.setPc1_pc1 (v : Word) : (s.setPc1 v).pc1 = v := rfl
@[simp] theorem State.setPc1_scratch (v : Word) : (s.setPc1 v).scratch = s.scratch := rfl
@[simp] theorem State.setPc1_noint (v : Word) : (s.setPc1 v).noint = s.noint := rfl
@[simp] theorem State.setPc1_mem (v : Word) : (s.setPc1 v).mem = s.mem := rfl
@[simp] theorem State.setPc1_portEvents (v : Word) : (s.setPc1 v).portEvents = s.portEvents := rfl
@[simp] theorem State.setPc1_pins (v : Word) : (s.setPc1 v).pins = s.pins := rfl
@[simp] theorem State.setPc1_pinsAhead (v : Word) : (s.setPc1 v).pinsAhead = s.pinsAhead := rfl
@[simp] theorem State.setPc1_portAnswers (v : Word) : (s.setPc1 v).portAnswers = s.portAnswers := rfl
@[simp] theorem State.setPc1_absentReads (v : Word) : (s.setPc1 v).absentReads = s.absentReads := rfl
@[simp] theorem State.setPc1_platform (v : Word) : (s.setPc1 v).platform = s.platform := rfl
@[simp] theorem State.setPc1_byteAt (v : Word) (x : Word) : (s.setPc1 v).byteAt x = s.byteAt x := rfl
@[simp] theorem State.setPc1_kindAt (v : Word) (x : Word) : (s.setPc1 v).kindAt x = s.kindAt x := rfl
@[simp] theorem State.setPc1_inputs (v : Word) : (s.setPc1 v).inputs = s.inputs := rfl
@[simp] theorem State.setPc1_outputs (v : Word) : (s.setPc1 v).outputs = s.outputs := rfl
@[simp] theorem State.setPc1_portReads (v : Word) : (s.setPc1 v).portReads = s.portReads := rfl
@[simp] theorem State.setPc1_reg (v : Word) (j : ScratchIndex) : (s.setPc1 v).reg j = s.reg j := rfl
@[simp] theorem State.setPc1_icb (v : Word) : (s.setPc1 v).icb = s.icb := rfl
@[simp] theorem State.setPc1_flags (v : Word) : (s.setPc1 v).flags = s.flags := rfl

/-! ### setNoint -/

@[simp] theorem State.setNoint_a (v : Bool) : (s.setNoint v).a = s.a := rfl
@[simp] theorem State.setNoint_isar (v : Bool) : (s.setNoint v).isar = s.isar := rfl
@[simp] theorem State.setNoint_w (v : Bool) : (s.setNoint v).w = s.w := rfl
@[simp] theorem State.setNoint_dc0 (v : Bool) : (s.setNoint v).dc0 = s.dc0 := rfl
@[simp] theorem State.setNoint_dc1 (v : Bool) : (s.setNoint v).dc1 = s.dc1 := rfl
@[simp] theorem State.setNoint_pc0 (v : Bool) : (s.setNoint v).pc0 = s.pc0 := rfl
@[simp] theorem State.setNoint_pc1 (v : Bool) : (s.setNoint v).pc1 = s.pc1 := rfl
@[simp] theorem State.setNoint_scratch (v : Bool) : (s.setNoint v).scratch = s.scratch := rfl
@[simp] theorem State.setNoint_noint (v : Bool) : (s.setNoint v).noint = v := rfl
@[simp] theorem State.setNoint_mem (v : Bool) : (s.setNoint v).mem = s.mem := rfl
@[simp] theorem State.setNoint_portEvents (v : Bool) : (s.setNoint v).portEvents = s.portEvents := rfl
@[simp] theorem State.setNoint_pins (v : Bool) : (s.setNoint v).pins = s.pins := rfl
@[simp] theorem State.setNoint_pinsAhead (v : Bool) : (s.setNoint v).pinsAhead = s.pinsAhead := rfl
@[simp] theorem State.setNoint_portAnswers (v : Bool) : (s.setNoint v).portAnswers = s.portAnswers := rfl
@[simp] theorem State.setNoint_absentReads (v : Bool) : (s.setNoint v).absentReads = s.absentReads := rfl
@[simp] theorem State.setNoint_platform (v : Bool) : (s.setNoint v).platform = s.platform := rfl
@[simp] theorem State.setNoint_byteAt (v : Bool) (x : Word) : (s.setNoint v).byteAt x = s.byteAt x := rfl
@[simp] theorem State.setNoint_kindAt (v : Bool) (x : Word) : (s.setNoint v).kindAt x = s.kindAt x := rfl
@[simp] theorem State.setNoint_inputs (v : Bool) : (s.setNoint v).inputs = s.inputs := rfl
@[simp] theorem State.setNoint_outputs (v : Bool) : (s.setNoint v).outputs = s.outputs := rfl
@[simp] theorem State.setNoint_portReads (v : Bool) : (s.setNoint v).portReads = s.portReads := rfl
@[simp] theorem State.setNoint_reg (v : Bool) (j : ScratchIndex) : (s.setNoint v).reg j = s.reg j := rfl
@[simp] theorem State.setNoint_icb (v : Bool) : (s.setNoint v).icb = s.icb := rfl
@[simp] theorem State.setNoint_flags (v : Bool) : (s.setNoint v).flags = s.flags := rfl

/-! ### setReg -/

@[simp] theorem State.setReg_a (i : ScratchIndex) (v : Byte) : (s.setReg i v).a = s.a := rfl
@[simp] theorem State.setReg_isar (i : ScratchIndex) (v : Byte) : (s.setReg i v).isar = s.isar := rfl
@[simp] theorem State.setReg_w (i : ScratchIndex) (v : Byte) : (s.setReg i v).w = s.w := rfl
@[simp] theorem State.setReg_dc0 (i : ScratchIndex) (v : Byte) : (s.setReg i v).dc0 = s.dc0 := rfl
@[simp] theorem State.setReg_dc1 (i : ScratchIndex) (v : Byte) : (s.setReg i v).dc1 = s.dc1 := rfl
@[simp] theorem State.setReg_pc0 (i : ScratchIndex) (v : Byte) : (s.setReg i v).pc0 = s.pc0 := rfl
@[simp] theorem State.setReg_pc1 (i : ScratchIndex) (v : Byte) : (s.setReg i v).pc1 = s.pc1 := rfl
@[simp] theorem State.setReg_scratch (i : ScratchIndex) (v : Byte) : (s.setReg i v).scratch = s.scratch.set i.toNat v i.isLt := rfl
@[simp] theorem State.setReg_noint (i : ScratchIndex) (v : Byte) : (s.setReg i v).noint = s.noint := rfl
@[simp] theorem State.setReg_mem (i : ScratchIndex) (v : Byte) : (s.setReg i v).mem = s.mem := rfl
@[simp] theorem State.setReg_portEvents (i : ScratchIndex) (v : Byte) : (s.setReg i v).portEvents = s.portEvents := rfl
@[simp] theorem State.setReg_pins (i : ScratchIndex) (v : Byte) : (s.setReg i v).pins = s.pins := rfl
@[simp] theorem State.setReg_pinsAhead (i : ScratchIndex) (v : Byte) : (s.setReg i v).pinsAhead = s.pinsAhead := rfl
@[simp] theorem State.setReg_portAnswers (i : ScratchIndex) (v : Byte) : (s.setReg i v).portAnswers = s.portAnswers := rfl
@[simp] theorem State.setReg_absentReads (i : ScratchIndex) (v : Byte) : (s.setReg i v).absentReads = s.absentReads := rfl
@[simp] theorem State.setReg_platform (i : ScratchIndex) (v : Byte) : (s.setReg i v).platform = s.platform := rfl
@[simp] theorem State.setReg_byteAt (i : ScratchIndex) (v : Byte) (x : Word) : (s.setReg i v).byteAt x = s.byteAt x := rfl
@[simp] theorem State.setReg_kindAt (i : ScratchIndex) (v : Byte) (x : Word) : (s.setReg i v).kindAt x = s.kindAt x := rfl
@[simp] theorem State.setReg_inputs (i : ScratchIndex) (v : Byte) : (s.setReg i v).inputs = s.inputs := rfl
@[simp] theorem State.setReg_outputs (i : ScratchIndex) (v : Byte) : (s.setReg i v).outputs = s.outputs := rfl
@[simp] theorem State.setReg_portReads (i : ScratchIndex) (v : Byte) : (s.setReg i v).portReads = s.portReads := rfl
@[simp] theorem State.setReg_icb (i : ScratchIndex) (v : Byte) : (s.setReg i v).icb = s.icb := rfl
@[simp] theorem State.setReg_flags (i : ScratchIndex) (v : Byte) : (s.setReg i v).flags = s.flags := rfl

/-! ### setFlags -/

@[simp] theorem State.setFlags_a (f : Flags) : (s.setFlags f).a = s.a := rfl
@[simp] theorem State.setFlags_isar (f : Flags) : (s.setFlags f).isar = s.isar := rfl
@[simp] theorem State.setFlags_w (f : Flags) : (s.setFlags f).w = packStatus s.icb f := rfl
@[simp] theorem State.setFlags_dc0 (f : Flags) : (s.setFlags f).dc0 = s.dc0 := rfl
@[simp] theorem State.setFlags_dc1 (f : Flags) : (s.setFlags f).dc1 = s.dc1 := rfl
@[simp] theorem State.setFlags_pc0 (f : Flags) : (s.setFlags f).pc0 = s.pc0 := rfl
@[simp] theorem State.setFlags_pc1 (f : Flags) : (s.setFlags f).pc1 = s.pc1 := rfl
@[simp] theorem State.setFlags_scratch (f : Flags) : (s.setFlags f).scratch = s.scratch := rfl
@[simp] theorem State.setFlags_noint (f : Flags) : (s.setFlags f).noint = s.noint := rfl
@[simp] theorem State.setFlags_mem (f : Flags) : (s.setFlags f).mem = s.mem := rfl
@[simp] theorem State.setFlags_portEvents (f : Flags) : (s.setFlags f).portEvents = s.portEvents := rfl
@[simp] theorem State.setFlags_pins (f : Flags) : (s.setFlags f).pins = s.pins := rfl
@[simp] theorem State.setFlags_pinsAhead (f : Flags) : (s.setFlags f).pinsAhead = s.pinsAhead := rfl
@[simp] theorem State.setFlags_portAnswers (f : Flags) : (s.setFlags f).portAnswers = s.portAnswers := rfl
@[simp] theorem State.setFlags_absentReads (f : Flags) : (s.setFlags f).absentReads = s.absentReads := rfl
@[simp] theorem State.setFlags_platform (f : Flags) : (s.setFlags f).platform = s.platform := rfl
@[simp] theorem State.setFlags_byteAt (f : Flags) (x : Word) : (s.setFlags f).byteAt x = s.byteAt x := rfl
@[simp] theorem State.setFlags_kindAt (f : Flags) (x : Word) : (s.setFlags f).kindAt x = s.kindAt x := rfl
@[simp] theorem State.setFlags_inputs (f : Flags) : (s.setFlags f).inputs = s.inputs := rfl
@[simp] theorem State.setFlags_outputs (f : Flags) : (s.setFlags f).outputs = s.outputs := rfl
@[simp] theorem State.setFlags_portReads (f : Flags) : (s.setFlags f).portReads = s.portReads := rfl
@[simp] theorem State.setFlags_reg (f : Flags) (j : ScratchIndex) : (s.setFlags f).reg j = s.reg j := rfl

/-! ### setIcb -/

@[simp] theorem State.setIcb_a (b : Bool) : (s.setIcb b).a = s.a := rfl
@[simp] theorem State.setIcb_isar (b : Bool) : (s.setIcb b).isar = s.isar := rfl
@[simp] theorem State.setIcb_w (b : Bool) : (s.setIcb b).w = packStatus b s.flags := rfl
@[simp] theorem State.setIcb_dc0 (b : Bool) : (s.setIcb b).dc0 = s.dc0 := rfl
@[simp] theorem State.setIcb_dc1 (b : Bool) : (s.setIcb b).dc1 = s.dc1 := rfl
@[simp] theorem State.setIcb_pc0 (b : Bool) : (s.setIcb b).pc0 = s.pc0 := rfl
@[simp] theorem State.setIcb_pc1 (b : Bool) : (s.setIcb b).pc1 = s.pc1 := rfl
@[simp] theorem State.setIcb_scratch (b : Bool) : (s.setIcb b).scratch = s.scratch := rfl
@[simp] theorem State.setIcb_noint (b : Bool) : (s.setIcb b).noint = s.noint := rfl
@[simp] theorem State.setIcb_mem (b : Bool) : (s.setIcb b).mem = s.mem := rfl
@[simp] theorem State.setIcb_portEvents (b : Bool) : (s.setIcb b).portEvents = s.portEvents := rfl
@[simp] theorem State.setIcb_pins (b : Bool) : (s.setIcb b).pins = s.pins := rfl
@[simp] theorem State.setIcb_pinsAhead (b : Bool) : (s.setIcb b).pinsAhead = s.pinsAhead := rfl
@[simp] theorem State.setIcb_portAnswers (b : Bool) : (s.setIcb b).portAnswers = s.portAnswers := rfl
@[simp] theorem State.setIcb_absentReads (b : Bool) : (s.setIcb b).absentReads = s.absentReads := rfl
@[simp] theorem State.setIcb_platform (b : Bool) : (s.setIcb b).platform = s.platform := rfl
@[simp] theorem State.setIcb_byteAt (b : Bool) (x : Word) : (s.setIcb b).byteAt x = s.byteAt x := rfl
@[simp] theorem State.setIcb_kindAt (b : Bool) (x : Word) : (s.setIcb b).kindAt x = s.kindAt x := rfl
@[simp] theorem State.setIcb_inputs (b : Bool) : (s.setIcb b).inputs = s.inputs := rfl
@[simp] theorem State.setIcb_outputs (b : Bool) : (s.setIcb b).outputs = s.outputs := rfl
@[simp] theorem State.setIcb_portReads (b : Bool) : (s.setIcb b).portReads = s.portReads := rfl
@[simp] theorem State.setIcb_reg (b : Bool) (j : ScratchIndex) : (s.setIcb b).reg j = s.reg j := rfl

/-! ### poke -/

@[simp] theorem State.poke_a (addr : Word) (v : Byte) : (s.poke addr v).a = s.a := rfl
@[simp] theorem State.poke_isar (addr : Word) (v : Byte) : (s.poke addr v).isar = s.isar := rfl
@[simp] theorem State.poke_w (addr : Word) (v : Byte) : (s.poke addr v).w = s.w := rfl
@[simp] theorem State.poke_dc0 (addr : Word) (v : Byte) : (s.poke addr v).dc0 = s.dc0 := rfl
@[simp] theorem State.poke_dc1 (addr : Word) (v : Byte) : (s.poke addr v).dc1 = s.dc1 := rfl
@[simp] theorem State.poke_pc0 (addr : Word) (v : Byte) : (s.poke addr v).pc0 = s.pc0 := rfl
@[simp] theorem State.poke_pc1 (addr : Word) (v : Byte) : (s.poke addr v).pc1 = s.pc1 := rfl
@[simp] theorem State.poke_scratch (addr : Word) (v : Byte) : (s.poke addr v).scratch = s.scratch := rfl
@[simp] theorem State.poke_noint (addr : Word) (v : Byte) : (s.poke addr v).noint = s.noint := rfl
@[simp] theorem State.poke_mem (addr : Word) (v : Byte) : (s.poke addr v).mem = s.mem.put addr.toNat v := rfl
@[simp] theorem State.poke_portEvents (addr : Word) (v : Byte) : (s.poke addr v).portEvents = s.portEvents := rfl
@[simp] theorem State.poke_pins (addr : Word) (v : Byte) : (s.poke addr v).pins = s.pins := rfl
@[simp] theorem State.poke_pinsAhead (addr : Word) (v : Byte) : (s.poke addr v).pinsAhead = s.pinsAhead := rfl
@[simp] theorem State.poke_portAnswers (addr : Word) (v : Byte) : (s.poke addr v).portAnswers = s.portAnswers := rfl
@[simp] theorem State.poke_absentReads (addr : Word) (v : Byte) : (s.poke addr v).absentReads = s.absentReads := rfl
@[simp] theorem State.poke_platform (addr : Word) (v : Byte) : (s.poke addr v).platform = s.platform := rfl
@[simp] theorem State.poke_kindAt (addr : Word) (v : Byte) (x : Word) : (s.poke addr v).kindAt x = s.kindAt x := rfl
@[simp] theorem State.poke_inputs (addr : Word) (v : Byte) : (s.poke addr v).inputs = s.inputs := rfl
@[simp] theorem State.poke_outputs (addr : Word) (v : Byte) : (s.poke addr v).outputs = s.outputs := rfl
@[simp] theorem State.poke_portReads (addr : Word) (v : Byte) : (s.poke addr v).portReads = s.portReads := rfl
@[simp] theorem State.poke_reg (addr : Word) (v : Byte) (j : ScratchIndex) : (s.poke addr v).reg j = s.reg j := rfl
@[simp] theorem State.poke_icb (addr : Word) (v : Byte) : (s.poke addr v).icb = s.icb := rfl
@[simp] theorem State.poke_flags (addr : Word) (v : Byte) : (s.poke addr v).flags = s.flags := rfl

/-! ### portOut -/

@[simp] theorem State.portOut_a (p v : Byte) : (s.portOut p v).a = s.a := rfl
@[simp] theorem State.portOut_isar (p v : Byte) : (s.portOut p v).isar = s.isar := rfl
@[simp] theorem State.portOut_w (p v : Byte) : (s.portOut p v).w = s.w := rfl
@[simp] theorem State.portOut_dc0 (p v : Byte) : (s.portOut p v).dc0 = s.dc0 := rfl
@[simp] theorem State.portOut_dc1 (p v : Byte) : (s.portOut p v).dc1 = s.dc1 := rfl
@[simp] theorem State.portOut_pc0 (p v : Byte) : (s.portOut p v).pc0 = s.pc0 := rfl
@[simp] theorem State.portOut_pc1 (p v : Byte) : (s.portOut p v).pc1 = s.pc1 := rfl
@[simp] theorem State.portOut_scratch (p v : Byte) : (s.portOut p v).scratch = s.scratch := rfl
@[simp] theorem State.portOut_noint (p v : Byte) : (s.portOut p v).noint = s.noint := rfl
@[simp] theorem State.portOut_mem (p v : Byte) : (s.portOut p v).mem = s.mem := rfl
@[simp] theorem State.portOut_portEvents (p v : Byte) : (s.portOut p v).portEvents = s.portEvents ++ [.output p v] := rfl
@[simp] theorem State.portOut_pins (p v : Byte) : (s.portOut p v).pins = s.pins := rfl
@[simp] theorem State.portOut_pinsAhead (p v : Byte) : (s.portOut p v).pinsAhead = s.pinsAhead := rfl
@[simp] theorem State.portOut_portAnswers (p v : Byte) : (s.portOut p v).portAnswers = s.portAnswers := rfl
@[simp] theorem State.portOut_absentReads (p v : Byte) : (s.portOut p v).absentReads = s.absentReads := rfl
@[simp] theorem State.portOut_platform (p v : Byte) : (s.portOut p v).platform = s.platform := rfl
@[simp] theorem State.portOut_byteAt (p v : Byte) (x : Word) : (s.portOut p v).byteAt x = s.byteAt x := rfl
@[simp] theorem State.portOut_kindAt (p v : Byte) (x : Word) : (s.portOut p v).kindAt x = s.kindAt x := rfl
@[simp] theorem State.portOut_reg (p v : Byte) (j : ScratchIndex) : (s.portOut p v).reg j = s.reg j := rfl
@[simp] theorem State.portOut_icb (p v : Byte) : (s.portOut p v).icb = s.icb := rfl
@[simp] theorem State.portOut_flags (p v : Byte) : (s.portOut p v).flags = s.flags := rfl

/-! ### advance -/

@[simp] theorem State.advance_a (n : Word) : (s.advance n).a = s.a := rfl
@[simp] theorem State.advance_isar (n : Word) : (s.advance n).isar = s.isar := rfl
@[simp] theorem State.advance_w (n : Word) : (s.advance n).w = s.w := rfl
@[simp] theorem State.advance_dc0 (n : Word) : (s.advance n).dc0 = s.dc0 := rfl
@[simp] theorem State.advance_dc1 (n : Word) : (s.advance n).dc1 = s.dc1 := rfl
@[simp] theorem State.advance_pc0 (n : Word) : (s.advance n).pc0 = s.pc0 + n := rfl
@[simp] theorem State.advance_pc1 (n : Word) : (s.advance n).pc1 = s.pc1 := rfl
@[simp] theorem State.advance_scratch (n : Word) : (s.advance n).scratch = s.scratch := rfl
@[simp] theorem State.advance_noint (n : Word) : (s.advance n).noint = false := rfl
@[simp] theorem State.advance_mem (n : Word) : (s.advance n).mem = s.mem := rfl
@[simp] theorem State.advance_portEvents (n : Word) : (s.advance n).portEvents = s.portEvents := rfl
@[simp] theorem State.advance_pins (n : Word) : (s.advance n).pins = s.pins := rfl
@[simp] theorem State.advance_pinsAhead (n : Word) : (s.advance n).pinsAhead = s.pinsAhead := rfl
@[simp] theorem State.advance_portAnswers (n : Word) : (s.advance n).portAnswers = s.portAnswers := rfl
@[simp] theorem State.advance_absentReads (n : Word) : (s.advance n).absentReads = s.absentReads := rfl
@[simp] theorem State.advance_platform (n : Word) : (s.advance n).platform = s.platform := rfl
@[simp] theorem State.advance_byteAt (n : Word) (x : Word) : (s.advance n).byteAt x = s.byteAt x := rfl
@[simp] theorem State.advance_kindAt (n : Word) (x : Word) : (s.advance n).kindAt x = s.kindAt x := rfl
@[simp] theorem State.advance_inputs (n : Word) : (s.advance n).inputs = s.inputs := rfl
@[simp] theorem State.advance_outputs (n : Word) : (s.advance n).outputs = s.outputs := rfl
@[simp] theorem State.advance_portReads (n : Word) : (s.advance n).portReads = s.portReads := rfl
@[simp] theorem State.advance_reg (n : Word) (j : ScratchIndex) : (s.advance n).reg j = s.reg j := rfl
@[simp] theorem State.advance_icb (n : Word) : (s.advance n).icb = s.icb := rfl
@[simp] theorem State.advance_flags (n : Word) : (s.advance n).flags = s.flags := rfl

/-! ### advanceHeld -/

@[simp] theorem State.advanceHeld_a (n : Word) : (s.advanceHeld n).a = s.a := rfl
@[simp] theorem State.advanceHeld_isar (n : Word) : (s.advanceHeld n).isar = s.isar := rfl
@[simp] theorem State.advanceHeld_w (n : Word) : (s.advanceHeld n).w = s.w := rfl
@[simp] theorem State.advanceHeld_dc0 (n : Word) : (s.advanceHeld n).dc0 = s.dc0 := rfl
@[simp] theorem State.advanceHeld_dc1 (n : Word) : (s.advanceHeld n).dc1 = s.dc1 := rfl
@[simp] theorem State.advanceHeld_pc0 (n : Word) : (s.advanceHeld n).pc0 = s.pc0 + n := rfl
@[simp] theorem State.advanceHeld_pc1 (n : Word) : (s.advanceHeld n).pc1 = s.pc1 := rfl
@[simp] theorem State.advanceHeld_scratch (n : Word) : (s.advanceHeld n).scratch = s.scratch := rfl
@[simp] theorem State.advanceHeld_noint (n : Word) : (s.advanceHeld n).noint = true := rfl
@[simp] theorem State.advanceHeld_mem (n : Word) : (s.advanceHeld n).mem = s.mem := rfl
@[simp] theorem State.advanceHeld_portEvents (n : Word) : (s.advanceHeld n).portEvents = s.portEvents := rfl
@[simp] theorem State.advanceHeld_pins (n : Word) : (s.advanceHeld n).pins = s.pins := rfl
@[simp] theorem State.advanceHeld_pinsAhead (n : Word) : (s.advanceHeld n).pinsAhead = s.pinsAhead := rfl
@[simp] theorem State.advanceHeld_portAnswers (n : Word) : (s.advanceHeld n).portAnswers = s.portAnswers := rfl
@[simp] theorem State.advanceHeld_absentReads (n : Word) : (s.advanceHeld n).absentReads = s.absentReads := rfl
@[simp] theorem State.advanceHeld_platform (n : Word) : (s.advanceHeld n).platform = s.platform := rfl
@[simp] theorem State.advanceHeld_byteAt (n : Word) (x : Word) : (s.advanceHeld n).byteAt x = s.byteAt x := rfl
@[simp] theorem State.advanceHeld_kindAt (n : Word) (x : Word) : (s.advanceHeld n).kindAt x = s.kindAt x := rfl
@[simp] theorem State.advanceHeld_inputs (n : Word) : (s.advanceHeld n).inputs = s.inputs := rfl
@[simp] theorem State.advanceHeld_outputs (n : Word) : (s.advanceHeld n).outputs = s.outputs := rfl
@[simp] theorem State.advanceHeld_portReads (n : Word) : (s.advanceHeld n).portReads = s.portReads := rfl
@[simp] theorem State.advanceHeld_reg (n : Word) (j : ScratchIndex) : (s.advanceHeld n).reg j = s.reg j := rfl
@[simp] theorem State.advanceHeld_icb (n : Word) : (s.advanceHeld n).icb = s.icb := rfl
@[simp] theorem State.advanceHeld_flags (n : Word) : (s.advanceHeld n).flags = s.flags := rfl

/-! ### jumpHeld -/

@[simp] theorem State.jumpHeld_a (target : Word) : (s.jumpHeld target).a = s.a := rfl
@[simp] theorem State.jumpHeld_isar (target : Word) : (s.jumpHeld target).isar = s.isar := rfl
@[simp] theorem State.jumpHeld_w (target : Word) : (s.jumpHeld target).w = s.w := rfl
@[simp] theorem State.jumpHeld_dc0 (target : Word) : (s.jumpHeld target).dc0 = s.dc0 := rfl
@[simp] theorem State.jumpHeld_dc1 (target : Word) : (s.jumpHeld target).dc1 = s.dc1 := rfl
@[simp] theorem State.jumpHeld_pc0 (target : Word) : (s.jumpHeld target).pc0 = target := rfl
@[simp] theorem State.jumpHeld_pc1 (target : Word) : (s.jumpHeld target).pc1 = s.pc1 := rfl
@[simp] theorem State.jumpHeld_scratch (target : Word) : (s.jumpHeld target).scratch = s.scratch := rfl
@[simp] theorem State.jumpHeld_noint (target : Word) : (s.jumpHeld target).noint = true := rfl
@[simp] theorem State.jumpHeld_mem (target : Word) : (s.jumpHeld target).mem = s.mem := rfl
@[simp] theorem State.jumpHeld_portEvents (target : Word) : (s.jumpHeld target).portEvents = s.portEvents := rfl
@[simp] theorem State.jumpHeld_pins (target : Word) : (s.jumpHeld target).pins = s.pins := rfl
@[simp] theorem State.jumpHeld_pinsAhead (target : Word) : (s.jumpHeld target).pinsAhead = s.pinsAhead := rfl
@[simp] theorem State.jumpHeld_portAnswers (target : Word) : (s.jumpHeld target).portAnswers = s.portAnswers := rfl
@[simp] theorem State.jumpHeld_absentReads (target : Word) : (s.jumpHeld target).absentReads = s.absentReads := rfl
@[simp] theorem State.jumpHeld_platform (target : Word) : (s.jumpHeld target).platform = s.platform := rfl
@[simp] theorem State.jumpHeld_byteAt (target : Word) (x : Word) : (s.jumpHeld target).byteAt x = s.byteAt x := rfl
@[simp] theorem State.jumpHeld_kindAt (target : Word) (x : Word) : (s.jumpHeld target).kindAt x = s.kindAt x := rfl
@[simp] theorem State.jumpHeld_inputs (target : Word) : (s.jumpHeld target).inputs = s.inputs := rfl
@[simp] theorem State.jumpHeld_outputs (target : Word) : (s.jumpHeld target).outputs = s.outputs := rfl
@[simp] theorem State.jumpHeld_portReads (target : Word) : (s.jumpHeld target).portReads = s.portReads := rfl
@[simp] theorem State.jumpHeld_reg (target : Word) (j : ScratchIndex) : (s.jumpHeld target).reg j = s.reg j := rfl
@[simp] theorem State.jumpHeld_icb (target : Word) : (s.jumpHeld target).icb = s.icb := rfl
@[simp] theorem State.jumpHeld_flags (target : Word) : (s.jumpHeld target).flags = s.flags := rfl

/-! ### branch -/

@[simp] theorem State.branch_a (taken : Bool) (dd : Byte) : (s.branch taken dd).a = s.a := rfl
@[simp] theorem State.branch_isar (taken : Bool) (dd : Byte) : (s.branch taken dd).isar = s.isar := rfl
@[simp] theorem State.branch_w (taken : Bool) (dd : Byte) : (s.branch taken dd).w = s.w := rfl
@[simp] theorem State.branch_dc0 (taken : Bool) (dd : Byte) : (s.branch taken dd).dc0 = s.dc0 := rfl
@[simp] theorem State.branch_dc1 (taken : Bool) (dd : Byte) : (s.branch taken dd).dc1 = s.dc1 := rfl
@[simp] theorem State.branch_pc0 (taken : Bool) (dd : Byte) : (s.branch taken dd).pc0 = if taken then s.branchTarget dd else s.pc0 + 2 := rfl
@[simp] theorem State.branch_pc1 (taken : Bool) (dd : Byte) : (s.branch taken dd).pc1 = s.pc1 := rfl
@[simp] theorem State.branch_scratch (taken : Bool) (dd : Byte) : (s.branch taken dd).scratch = s.scratch := rfl
@[simp] theorem State.branch_noint (taken : Bool) (dd : Byte) : (s.branch taken dd).noint = false := rfl
@[simp] theorem State.branch_mem (taken : Bool) (dd : Byte) : (s.branch taken dd).mem = s.mem := rfl
@[simp] theorem State.branch_portEvents (taken : Bool) (dd : Byte) : (s.branch taken dd).portEvents = s.portEvents := rfl
@[simp] theorem State.branch_pins (taken : Bool) (dd : Byte) : (s.branch taken dd).pins = s.pins := rfl
@[simp] theorem State.branch_pinsAhead (taken : Bool) (dd : Byte) : (s.branch taken dd).pinsAhead = s.pinsAhead := rfl
@[simp] theorem State.branch_portAnswers (taken : Bool) (dd : Byte) : (s.branch taken dd).portAnswers = s.portAnswers := rfl
@[simp] theorem State.branch_absentReads (taken : Bool) (dd : Byte) : (s.branch taken dd).absentReads = s.absentReads := rfl
@[simp] theorem State.branch_platform (taken : Bool) (dd : Byte) : (s.branch taken dd).platform = s.platform := rfl
@[simp] theorem State.branch_byteAt (taken : Bool) (dd : Byte) (x : Word) : (s.branch taken dd).byteAt x = s.byteAt x := rfl
@[simp] theorem State.branch_kindAt (taken : Bool) (dd : Byte) (x : Word) : (s.branch taken dd).kindAt x = s.kindAt x := rfl
@[simp] theorem State.branch_inputs (taken : Bool) (dd : Byte) : (s.branch taken dd).inputs = s.inputs := rfl
@[simp] theorem State.branch_outputs (taken : Bool) (dd : Byte) : (s.branch taken dd).outputs = s.outputs := rfl
@[simp] theorem State.branch_portReads (taken : Bool) (dd : Byte) : (s.branch taken dd).portReads = s.portReads := rfl
@[simp] theorem State.branch_reg (taken : Bool) (dd : Byte) (j : ScratchIndex) : (s.branch taken dd).reg j = s.reg j := rfl
@[simp] theorem State.branch_icb (taken : Bool) (dd : Byte) : (s.branch taken dd).icb = s.icb := rfl
@[simp] theorem State.branch_flags (taken : Bool) (dd : Byte) : (s.branch taken dd).flags = s.flags := rfl

/-! ### enter -/

@[simp] theorem State.enter_a (target : Word) : (s.enter target).a = s.a := rfl
@[simp] theorem State.enter_isar (target : Word) : (s.enter target).isar = s.isar := rfl
@[simp] theorem State.enter_w (target : Word) : (s.enter target).w = packStatus false s.flags := rfl
@[simp] theorem State.enter_dc0 (target : Word) : (s.enter target).dc0 = s.dc0 := rfl
@[simp] theorem State.enter_dc1 (target : Word) : (s.enter target).dc1 = s.dc1 := rfl
@[simp] theorem State.enter_pc0 (target : Word) : (s.enter target).pc0 = target := rfl
@[simp] theorem State.enter_pc1 (target : Word) : (s.enter target).pc1 = s.pc0 := rfl
@[simp] theorem State.enter_scratch (target : Word) : (s.enter target).scratch = s.scratch := rfl
@[simp] theorem State.enter_noint (target : Word) : (s.enter target).noint = true := rfl
@[simp] theorem State.enter_mem (target : Word) : (s.enter target).mem = s.mem := rfl
@[simp] theorem State.enter_portEvents (target : Word) : (s.enter target).portEvents = s.portEvents := rfl
@[simp] theorem State.enter_pins (target : Word) : (s.enter target).pins = s.pins := rfl
@[simp] theorem State.enter_pinsAhead (target : Word) : (s.enter target).pinsAhead = s.pinsAhead := rfl
@[simp] theorem State.enter_portAnswers (target : Word) : (s.enter target).portAnswers = s.portAnswers := rfl
@[simp] theorem State.enter_absentReads (target : Word) : (s.enter target).absentReads = s.absentReads := rfl
@[simp] theorem State.enter_platform (target : Word) : (s.enter target).platform = s.platform := rfl
@[simp] theorem State.enter_byteAt (target : Word) (x : Word) : (s.enter target).byteAt x = s.byteAt x := rfl
@[simp] theorem State.enter_kindAt (target : Word) (x : Word) : (s.enter target).kindAt x = s.kindAt x := rfl
@[simp] theorem State.enter_inputs (target : Word) : (s.enter target).inputs = s.inputs := rfl
@[simp] theorem State.enter_outputs (target : Word) : (s.enter target).outputs = s.outputs := rfl
@[simp] theorem State.enter_portReads (target : Word) : (s.enter target).portReads = s.portReads := rfl
@[simp] theorem State.enter_reg (target : Word) (j : ScratchIndex) : (s.enter target).reg j = s.reg j := rfl

end Sys2Proof.Machine
end

