-- ==== Sys2Proof/Laws/Ops.lean ====
section
/-! SUPPORT. One lemma for each shared operation that says everything it can do. -/

namespace Sys2Proof.Machine

/-! ### Registers and the status register -/

@[simp] theorem State.reg_setReg_self (s : State) (i : ScratchIndex) (v : Byte) : (s.setReg i v).reg i = v := by
  simp [State.reg, State.setReg]

theorem State.reg_setReg_other (s : State) {i j : ScratchIndex} (v : Byte) (h : j ≠ i) :
    (s.setReg i v).reg j = s.reg j := by
  have h' : i.toNat ≠ j.toNat := fun e => h (BitVec.eq_of_toNat_eq e.symm)
  simp [State.reg, State.setReg, Vector.getElem_set_ne _ _ h']

theorem packStatus_bits (b : Bool) (f : Flags) :
    (packStatus b f).getLsbD 0 = f.s ∧ (packStatus b f).getLsbD 1 = f.c ∧ (packStatus b f).getLsbD 2 = f.z ∧
      (packStatus b f).getLsbD 3 = f.o ∧ (packStatus b f).getLsbD 4 = b := by
  obtain ⟨o, z, c, s⟩ := f
  revert b o z c s
  decide

@[simp] theorem State.flags_setFlags (s : State) (f : Flags) : (s.setFlags f).flags = f := by
  obtain ⟨h0, h1, h2, h3, _⟩ := packStatus_bits s.icb f
  simp only [State.flags, State.flagO, State.flagZ, State.flagC, State.flagS, State.setFlags_w, h0, h1, h2, h3]

@[simp] theorem State.icb_setFlags (s : State) (f : Flags) : (s.setFlags f).icb = s.icb := (packStatus_bits s.icb f).2.2.2.2

@[simp] theorem State.flags_setIcb (s : State) (b : Bool) : (s.setIcb b).flags = s.flags := by
  obtain ⟨h0, h1, h2, h3, _⟩ := packStatus_bits b s.flags
  simp only [State.flags] at h0 h1 h2 h3
  simp only [State.flags, State.flagO, State.flagZ, State.flagC, State.flagS, State.setIcb_w] at *
  simp only [h0, h1, h2, h3]

@[simp] theorem State.icb_setIcb (s : State) (b : Bool) : (s.setIcb b).icb = b := (packStatus_bits b s.flags).2.2.2.2

/-! ### Main memory -/

/-- MemRead gives the byte held, with nothing changed, unless the address is absent; then it is a draw and is counted. -/
theorem State.memRead_cases (s : State) (addr : Word) :
    (s.kindAt addr ≠ .absent ∧ s.memRead addr = (s.byteAt addr, s)) ∨
      (s.kindAt addr = .absent ∧
        s.memRead addr = (Config.absentByte s.absentReads addr, { s with absentReads := s.absentReads + 1 })) := by
  unfold State.memRead
  split <;> simp_all

/-- Whatever is read, MemRead changes nothing but the count of absent reads. -/
theorem State.memRead_snd (s : State) (addr : Word) :
    (s.memRead addr).2 = { s with absentReads := (s.memRead addr).2.absentReads } := by
  rcases s.memRead_cases addr with ⟨_, h⟩ | ⟨_, h⟩ <;> simp [h]

theorem State.memWrite_cases (s : State) (addr : Word) (v : Byte) :
    (s.kindAt addr = .ram ∧ s.memWrite addr v = s.poke addr v) ∨ (s.kindAt addr ≠ .ram ∧ s.memWrite addr v = s) := by
  unfold State.memWrite
  split <;> simp_all

@[simp] theorem State.byteAt_poke_self (s : State) (addr : Word) (v : Byte) : (s.poke addr v).byteAt addr = v := by
  simp [State.byteAt]

theorem State.byteAt_poke_other (s : State) {addr x : Word} (v : Byte) (h : x ≠ addr) :
    (s.poke addr v).byteAt x = s.byteAt x := by
  have h' : x.toNat ≠ addr.toNat := fun e => h (BitVec.eq_of_toNat_eq e)
  simp [State.byteAt, Memory.find_put_other h']

theorem State.poke_wf {s : State} (addr : Word) (v : Byte) (h : s.mem.wf = true) : (s.poke addr v).mem.wf = true :=
  Memory.wf_put addr v h

theorem State.memWrite_wf {s : State} (addr : Word) (v : Byte) (h : s.mem.wf = true) :
    (s.memWrite addr v).mem.wf = true := by
  rcases s.memWrite_cases addr v with ⟨_, e⟩ | ⟨_, e⟩
  · simpa [e] using Memory.wf_put addr v h
  · simpa [e] using h

/-! ### Operands -/

/-- ScratchRef changes nothing but ISAR. -/
theorem State.scratchRef_snd (s : State) (r : ScratchOperand) :
    (s.scratchRef r).2 = { s with isar := (s.scratchRef r).2.isar } := by
  cases r <;> rfl

/-- The memory operand changes nothing but DC0, which steps by one, and the count of absent reads. -/
theorem State.memOperand_snd (s : State) :
    s.memOperand.2 = { s with dc0 := s.dc0 + 1, absentReads := (s.memRead s.dc0).2.absentReads } := by
  have h := s.memRead_snd s.dc0
  have hd : (s.memRead s.dc0).2.dc0 = s.dc0 := by rw [h]
  simp only [State.memOperand, State.setDc0, hd]
  rw [h]

/-! ### The I/O ports -/

theorem State.portAnswer_eq (s : State) (p : Byte) :
    s.portAnswer p = s.portAnswers.headD (Config.portRead p s.portReads s.portEvents) := by
  unfold State.portAnswer
  split <;> rename_i h <;> simp [h]

/-- PortIn gives the environment's answer and changes nothing but the answers left and the events, to which the read is
added. -/
theorem State.portIn_eq (s : State) (p : Byte) :
    s.portIn p = (s.portAnswer p, { s with portAnswers := s.portAnswers.tail, portEvents := s.portEvents ++ [.input p (s.portAnswer p)] }) :=
  rfl

@[simp] theorem State.portIn_inputs (s : State) (p : Byte) : (s.portIn p).2.inputs = s.inputs ++ [(p, s.portAnswer p)] := by
  simp [State.portIn_eq, State.inputs, PortEvent.read?]

@[simp] theorem State.portIn_outputs (s : State) (p : Byte) : (s.portIn p).2.outputs = s.outputs := by
  simp [State.portIn_eq, State.outputs, PortEvent.written?]

@[simp] theorem State.portIn_portReads (s : State) (p : Byte) : (s.portIn p).2.portReads = s.portReads + 1 := by
  simp [State.portReads]

@[simp] theorem State.portOut_inputs (s : State) (p v : Byte) : (s.portOut p v).inputs = s.inputs := by
  simp [State.inputs, PortEvent.read?]

@[simp] theorem State.portOut_outputs (s : State) (p v : Byte) : (s.portOut p v).outputs = s.outputs ++ [(p, v)] := by
  simp [State.outputs, PortEvent.written?]

@[simp] theorem State.portOut_portReads (s : State) (p v : Byte) : (s.portOut p v).portReads = s.portReads := by
  simp [State.portReads]

/-! ### The pins -/

/-- The environment's move between two steps touches the pins and what is ahead of them. -/
theorem State.nextPins_eq (s : State) :
    s.nextPins = { s with pins := s.nextPins.pins, pinsAhead := s.pinsAhead.tail } := by
  unfold State.nextPins
  split <;> rename_i h
  · cases s; simp_all
  · simp [h]

theorem onNext_eq_next {f : State → State} {x : Host.Outcome State Fault Refusal} {t : State} :
    onNext f x = .next t ↔ ∃ u, x = .next u ∧ f u = t := by
  cases x <;> simp [onNext]

end Sys2Proof.Machine
end

