-- ==== Sys2Proof/Laws/PerInstr.lean ====
section
/-! SUPPORT. Statements about every instruction as syntax, one lemma per constructor. -/

namespace Sys2Proof.Laws

/-- The opcode byte of an encoded instruction decides the instruction's length (R60, R66). -/
def EncodedLength.Statement (i : Instr) : Prop :=
  i.wellFormed = true → opcodeLength ((encode i).headD 0) = some (encode i).length

theorem EncodedLength.lrAKu : EncodedLength.Statement .lrAKu := fun _ => rfl

theorem EncodedLength.lrAKl : EncodedLength.Statement .lrAKl := fun _ => rfl

theorem EncodedLength.lrAQu : EncodedLength.Statement .lrAQu := fun _ => rfl

theorem EncodedLength.lrAQl : EncodedLength.Statement .lrAQl := fun _ => rfl

theorem EncodedLength.lrKuA : EncodedLength.Statement .lrKuA := fun _ => rfl

theorem EncodedLength.lrKlA : EncodedLength.Statement .lrKlA := fun _ => rfl

theorem EncodedLength.lrQuA : EncodedLength.Statement .lrQuA := fun _ => rfl

theorem EncodedLength.lrQlA : EncodedLength.Statement .lrQlA := fun _ => rfl

theorem EncodedLength.lrKP : EncodedLength.Statement .lrKP := fun _ => rfl

theorem EncodedLength.lrPK : EncodedLength.Statement .lrPK := fun _ => rfl

theorem EncodedLength.lrAIs : EncodedLength.Statement .lrAIs := fun _ => rfl

theorem EncodedLength.lrIsA : EncodedLength.Statement .lrIsA := fun _ => rfl

theorem EncodedLength.pk : EncodedLength.Statement .pk := fun _ => rfl

theorem EncodedLength.lrP0Q : EncodedLength.Statement .lrP0Q := fun _ => rfl

theorem EncodedLength.lrQDc : EncodedLength.Statement .lrQDc := fun _ => rfl

theorem EncodedLength.lrDcQ : EncodedLength.Statement .lrDcQ := fun _ => rfl

theorem EncodedLength.lrDcH : EncodedLength.Statement .lrDcH := fun _ => rfl

theorem EncodedLength.lrHDc : EncodedLength.Statement .lrHDc := fun _ => rfl

theorem EncodedLength.sr1 : EncodedLength.Statement .sr1 := fun _ => rfl

theorem EncodedLength.sl1 : EncodedLength.Statement .sl1 := fun _ => rfl

theorem EncodedLength.sr4 : EncodedLength.Statement .sr4 := fun _ => rfl

theorem EncodedLength.sl4 : EncodedLength.Statement .sl4 := fun _ => rfl

theorem EncodedLength.lm : EncodedLength.Statement .lm := fun _ => rfl

theorem EncodedLength.st : EncodedLength.Statement .st := fun _ => rfl

theorem EncodedLength.com : EncodedLength.Statement .com := fun _ => rfl

theorem EncodedLength.lnk : EncodedLength.Statement .lnk := fun _ => rfl

theorem EncodedLength.di : EncodedLength.Statement .di := fun _ => rfl

theorem EncodedLength.ei : EncodedLength.Statement .ei := fun _ => rfl

theorem EncodedLength.pop : EncodedLength.Statement .pop := fun _ => rfl

theorem EncodedLength.lrWJ : EncodedLength.Statement .lrWJ := fun _ => rfl

theorem EncodedLength.lrJW : EncodedLength.Statement .lrJW := fun _ => rfl

theorem EncodedLength.inc : EncodedLength.Statement .inc := fun _ => rfl

theorem EncodedLength.li (aa : Byte) : EncodedLength.Statement (.li aa) := fun _ =>
  (by decide : opcodeLength 0x20 = some 2)

theorem EncodedLength.ni (aa : Byte) : EncodedLength.Statement (.ni aa) := fun _ =>
  (by decide : opcodeLength 0x21 = some 2)

theorem EncodedLength.oi (aa : Byte) : EncodedLength.Statement (.oi aa) := fun _ =>
  (by decide : opcodeLength 0x22 = some 2)

theorem EncodedLength.xi (aa : Byte) : EncodedLength.Statement (.xi aa) := fun _ =>
  (by decide : opcodeLength 0x23 = some 2)

theorem EncodedLength.ai (aa : Byte) : EncodedLength.Statement (.ai aa) := fun _ =>
  (by decide : opcodeLength 0x24 = some 2)

theorem EncodedLength.ci (aa : Byte) : EncodedLength.Statement (.ci aa) := fun _ =>
  (by decide : opcodeLength 0x25 = some 2)

theorem EncodedLength.inPort (pp : Byte) : EncodedLength.Statement (.inPort pp) := fun _ =>
  (by decide : opcodeLength 0x26 = some 2)

theorem EncodedLength.outPort (pp : Byte) : EncodedLength.Statement (.outPort pp) := fun _ =>
  (by decide : opcodeLength 0x27 = some 2)

theorem EncodedLength.pi (iijj : Word) : EncodedLength.Statement (.pi iijj) := fun _ =>
  (by decide : opcodeLength 0x28 = some 3)

theorem EncodedLength.jmp (iijj : Word) : EncodedLength.Statement (.jmp iijj) := fun _ =>
  (by decide : opcodeLength 0x29 = some 3)

theorem EncodedLength.dci (iijj : Word) : EncodedLength.Statement (.dci iijj) := fun _ =>
  (by decide : opcodeLength 0x2A = some 3)

theorem EncodedLength.nop : EncodedLength.Statement .nop := fun _ => rfl

theorem EncodedLength.xdc : EncodedLength.Statement .xdc := fun _ => rfl

theorem EncodedLength.ds (r : ScratchOperand) : EncodedLength.Statement (.ds r) := by
  intro _; cases r with
  | direct n => revert n; decide
  | _ => rfl

theorem EncodedLength.lrAR (r : ScratchOperand) : EncodedLength.Statement (.lrAR r) := by
  intro _; cases r with
  | direct n => revert n; decide
  | _ => rfl

theorem EncodedLength.lrRA (r : ScratchOperand) : EncodedLength.Statement (.lrRA r) := by
  intro _; cases r with
  | direct n => revert n; decide
  | _ => rfl

theorem EncodedLength.lisu (e : BitVec 3) : EncodedLength.Statement (.lisu e) := by
  unfold EncodedLength.Statement; revert e; decide

theorem EncodedLength.lisl (e : BitVec 3) : EncodedLength.Statement (.lisl e) := by
  unfold EncodedLength.Statement; revert e; decide

theorem EncodedLength.lis (n : BitVec 4) : EncodedLength.Statement (.lis n) := by
  unfold EncodedLength.Statement; revert n; decide

theorem EncodedLength.bt (e : BitVec 3) (ii : Byte) : EncodedLength.Statement (.bt e ii) := by
  intro _
  exact (by decide : ∀ e : BitVec 3, opcodeLength (0b10000#5 ++ e : BitVec (5 + 3)) = some 2) e

theorem EncodedLength.am : EncodedLength.Statement .am := fun _ => rfl

theorem EncodedLength.amd : EncodedLength.Statement .amd := fun _ => rfl

theorem EncodedLength.nm : EncodedLength.Statement .nm := fun _ => rfl

theorem EncodedLength.om : EncodedLength.Statement .om := fun _ => rfl

theorem EncodedLength.xm : EncodedLength.Statement .xm := fun _ => rfl

theorem EncodedLength.cm : EncodedLength.Statement .cm := fun _ => rfl

theorem EncodedLength.adc : EncodedLength.Statement .adc := fun _ => rfl

theorem EncodedLength.br7 (ii : Byte) : EncodedLength.Statement (.br7 ii) := fun _ =>
  (by decide : opcodeLength 0x8F = some 2)

theorem EncodedLength.brT (t : BitVec 4) (ii : Byte) : EncodedLength.Statement (.brT t ii) := by
  intro _
  exact (by decide : ∀ t : BitVec 4, opcodeLength (groupByte 0x9 t) = some 2) t

theorem EncodedLength.ins01 (p : BitVec 1) : EncodedLength.Statement (.ins01 p) := by
  unfold EncodedLength.Statement; revert p; decide

theorem EncodedLength.insN (n : BitVec 4) : EncodedLength.Statement (.insN n) := by
  unfold EncodedLength.Statement; revert n; decide

theorem EncodedLength.outs01 (p : BitVec 1) : EncodedLength.Statement (.outs01 p) := by
  unfold EncodedLength.Statement; revert p; decide

theorem EncodedLength.outsN (n : BitVec 4) : EncodedLength.Statement (.outsN n) := by
  unfold EncodedLength.Statement; revert n; decide

theorem EncodedLength.asR (r : ScratchOperand) : EncodedLength.Statement (.asR r) := by
  intro _; cases r with
  | direct n => revert n; decide
  | _ => rfl

theorem EncodedLength.asdR (r : ScratchOperand) : EncodedLength.Statement (.asdR r) := by
  intro _; cases r with
  | direct n => revert n; decide
  | _ => rfl

theorem EncodedLength.xsR (r : ScratchOperand) : EncodedLength.Statement (.xsR r) := by
  intro _; cases r with
  | direct n => revert n; decide
  | _ => rfl

theorem EncodedLength.nsR (r : ScratchOperand) : EncodedLength.Statement (.nsR r) := by
  intro _; cases r with
  | direct n => revert n; decide
  | _ => rfl

end Sys2Proof.Laws
end

