-- ==== Sys2Proof/Laws/Step.lean ====
section
/-! SUPPORT. What fetching and one step can do, said once. -/

namespace Sys2Proof.Machine

/-- Reading bytes changes nothing but the count of absent reads. -/
theorem State.readBytes_snd (n : Nat) (addr : Word) (s : State) :
    (State.readBytes n addr s).2 = { s with absentReads := (State.readBytes n addr s).2.absentReads } := by
  induction n generalizing addr s with
  | zero => rfl
  | succ n ih =>
    have h := ih (addr + 1) (s.memRead addr).2
    have hr := s.memRead_snd addr
    simp only [State.readBytes]
    rw [h, hr]

/-- Where nothing absent is read, reading bytes gives the bytes held and changes nothing. -/
theorem State.readBytes_present (n : Nat) (addr : Word) (s : State)
    (h : ∀ k < n, s.kindAt (addr + BitVec.ofNat 16 k) ≠ .absent) :
    State.readBytes n addr s = ((List.range n).map fun k => s.byteAt (addr + BitVec.ofNat 16 k), s) := by
  induction n generalizing addr with
  | zero => rfl
  | succ n ih =>
    have h0 : s.memRead addr = (s.byteAt addr, s) := by
      rcases s.memRead_cases addr with ⟨_, e⟩ | ⟨e, _⟩
      · exact e
      · exact absurd e (by simpa using h 0 (by omega))
    have hstep : ∀ k, addr + 1 + BitVec.ofNat 16 k = addr + BitVec.ofNat 16 (k + 1) := by
      intro k
      rw [BitVec.ofNat_add, BitVec.add_assoc, BitVec.add_comm 1 (BitVec.ofNat 16 k)]
      rfl
    have := ih (addr + 1) (fun k hk => by rw [hstep]; exact h (k + 1) (by omega))
    simp only [State.readBytes, h0, this, List.range_succ_eq_map, List.map_cons, List.map_map]
    refine Prod.ext ?_ rfl
    simp only [List.cons.injEq]
    exact ⟨by simp, List.map_congr_left fun k _ => congrArg s.byteAt (hstep k)⟩

/-- A fetch that answers changes nothing but the count of absent reads, so PC0 still holds the opcode's address. -/
theorem fetch_state {s s' : State} {i : Instr} (h : fetch s = .ok (i, s')) :
    s' = { s with absentReads := s'.absentReads } := by
  unfold fetch at h
  have hr := s.memRead_snd s.pc0
  simp only at h
  split at h
  · cases h
  · rename_i len _
    have hq := State.readBytes_snd (len - 1) (s.pc0 + 1) (s.memRead s.pc0).2
    split at h
    · simp only [Except.ok.injEq, Prod.mk.injEq] at h
      rw [← h.2, hq, hr]
    · cases h

/-- The three things one step can be when it answers a next state (R221). -/
theorem step_cases {s t : State} (h : step s = .next t) :
    (s.pins.extrst = true ∧ t = s.takeReset.nextPins) ∨
      (s.pins.extrst = false ∧ s.interruptDue = true ∧ t = s.takeInterrupt.nextPins) ∨
      (s.pins.extrst = false ∧ s.interruptDue = false ∧
        ∃ i s' u, fetch s = .ok (i, s') ∧ exec i s' = .next u ∧ t = u.nextPins) := by
  unfold step at h
  split at h
  · rename_i hr
    exact .inl ⟨hr, by simpa [onNext] using h.symm⟩
  · rename_i hr
    have hr : s.pins.extrst = false := by simpa using hr
    split at h
    · rename_i hd
      exact .inr (.inl ⟨hr, hd, by simpa [onNext] using h.symm⟩)
    · rename_i hd
      obtain ⟨u, hu, rfl⟩ := onNext_eq_next.mp h
      unfold fetchAndRun at hu
      split at hu
      · rename_i i s' hf
        exact .inr (.inr ⟨hr, by simpa using hd, i, s', u, hf, hu, rfl⟩)
      · cases hu

end Sys2Proof.Machine
end

