-- ==== Sys2Proof/Tests/Slice0.lean ====
section
/-! SUPPORT. The model's own tests: well-formedness, decoding of every constructor by words written out from R64, one step on
the vectors of 95_test_vectors.md (V<n>), and a witness for the hypotheses of every statement that has some. -/

namespace Sys2Proof.Tests

open Sys2Proof Sys2Proof.Machine Sys2Proof.Spec

/-- The next state of an outcome, if there is one. -/
def after (x : Host.Outcome State Fault Refusal) : Option State :=
  match x with
  | .next t => some t
  | _ => none

/-- The refusal of an outcome, if there is one. -/
def refusal (x : Host.Outcome State Fault Refusal) : Option Refusal :=
  match x with
  | .refused r => some r
  | _ => none

/-- The vectors' start state: the instruction stands at 0100 and noint is false. -/
def base : State := { State.reset with pc0 := 0x0100, noint := false }

/-- One step with these bytes at PC0. -/
def run (bytes : List Byte) (s : State) : Option State := after (step (State.placeBytes s.pc0 bytes s))

/-- The bytes decode to the instruction, with nothing left over, and the encoder gives them back. -/
def decodesTo (bytes : List Byte) (i : Instr) : Bool :=
  match decode bytes with
  | .ok (j, []) => decide (j = i) && decide (encode i = bytes)
  | _ => false

/-! ### Well-formedness: INS n and OUTS n have no port below 4 (R198, R200, R201) -/

theorem test_wf_refuses_ins_port_2 : (Instr.insN 2).wellFormed = false := by decide
theorem test_wf_refuses_ins_port_0 : (Instr.insN 0).wellFormed = false := by decide
theorem test_wf_refuses_outs_port_3 : (Instr.outsN 3).wellFormed = false := by decide
theorem test_wf_accepts_short_ports : ((Instr.insN 4).wellFormed && (Instr.outsN 15).wellFormed) = true := by decide

/-! ### Decoding: every constructor, words from R64 -/

theorem test_decode_low : ([
  decodesTo [0x00] .lrAKu, decodesTo [0x01] .lrAKl, decodesTo [0x02] .lrAQu, decodesTo [0x03] .lrAQl,
  decodesTo [0x04] .lrKuA, decodesTo [0x05] .lrKlA, decodesTo [0x06] .lrQuA, decodesTo [0x07] .lrQlA,
  decodesTo [0x08] .lrKP, decodesTo [0x09] .lrPK, decodesTo [0x0A] .lrAIs, decodesTo [0x0B] .lrIsA,
  decodesTo [0x0C] .pk, decodesTo [0x0D] .lrP0Q, decodesTo [0x0E] .lrQDc, decodesTo [0x0F] .lrDcQ].all id) = true := by decide

theorem test_decode_ten : ([
  decodesTo [0x10] .lrDcH, decodesTo [0x11] .lrHDc, decodesTo [0x12] .sr1, decodesTo [0x13] .sl1,
  decodesTo [0x14] .sr4, decodesTo [0x15] .sl4, decodesTo [0x16] .lm, decodesTo [0x17] .st,
  decodesTo [0x18] .com, decodesTo [0x19] .lnk, decodesTo [0x1A] .di, decodesTo [0x1B] .ei,
  decodesTo [0x1C] .pop, decodesTo [0x1D] .lrWJ, decodesTo [0x1E] .lrJW, decodesTo [0x1F] .inc].all id) = true := by decide

theorem test_decode_immediate : ([
  decodesTo [0x20, 0x7F] (.li 0x7F), decodesTo [0x21, 0x0F] (.ni 0x0F), decodesTo [0x22, 0x80] (.oi 0x80), decodesTo [0x23, 0x0F] (.xi 0x0F),
  decodesTo [0x24, 0x01] (.ai 0x01), decodesTo [0x25, 0x10] (.ci 0x10), decodesTo [0x26, 0x24] (.inPort 0x24), decodesTo [0x27, 0x24] (.outPort 0x24),
  decodesTo [0x28, 0x12, 0x34] (.pi 0x1234), decodesTo [0x29, 0x12, 0x34] (.jmp 0x1234), decodesTo [0x2A, 0x12, 0x34] (.dci 0x1234), decodesTo [0x2B] .nop,
  decodesTo [0x2C] .xdc].all id) = true := by decide

theorem test_decode_scratchpad : ([
  decodesTo [0x30] (.ds (.direct 0)), decodesTo [0x3E] (.ds .isarDec), decodesTo [0x45] (.lrAR (.direct 5)), decodesTo [0x4B] (.lrAR (.direct 11)),
  decodesTo [0x4C] (.lrAR .isar), decodesTo [0x4D] (.lrAR .isarInc), decodesTo [0x4E] (.lrAR .isarDec), decodesTo [0x59] (.lrRA (.direct 9)),
  decodesTo [0xC3] (.asR (.direct 3)), decodesTo [0xCD] (.asR .isarInc), decodesTo [0xD0] (.asdR (.direct 0)), decodesTo [0xE2] (.xsR (.direct 2)),
  decodesTo [0xF1] (.nsR (.direct 1)), decodesTo [0xFC] (.nsR .isar)].all id) = true := by decide

theorem test_decode_fields : ([
  decodesTo [0x62] (.lisu 2), decodesTo [0x67] (.lisu 7), decodesTo [0x68] (.lisl 0), decodesTo [0x6F] (.lisl 7),
  decodesTo [0x7A] (.lis 10), decodesTo [0x70] (.lis 0), decodesTo [0x84, 0x03] (.bt 4 0x03), decodesTo [0x87, 0x00] (.bt 7 0x00),
  decodesTo [0x8F, 0x05] (.br7 0x05), decodesTo [0x97, 0x05] (.brT 7 0x05), decodesTo [0x9F, 0x02] (.brT 15 0x02)].all id) = true := by decide

theorem test_decode_memory : ([
  decodesTo [0x88] .am, decodesTo [0x89] .amd, decodesTo [0x8A] .nm, decodesTo [0x8B] .om,
  decodesTo [0x8C] .xm, decodesTo [0x8D] .cm, decodesTo [0x8E] .adc].all id) = true := by decide

theorem test_decode_ports : ([
  decodesTo [0xA0] (.ins01 0), decodesTo [0xA1] (.ins01 1), decodesTo [0xA4] (.insN 4), decodesTo [0xAF] (.insN 15),
  decodesTo [0xB0] (.outs01 0), decodesTo [0xB1] (.outs01 1), decodesTo [0xB4] (.outsN 4), decodesTo [0xBF] (.outsN 15)].all id) = true := by decide

/-- V196: the 14 undefined opcodes (R65). -/
theorem test_decode_undefined :
    (undefinedOpcodes.all fun b => match decode [b, 0x00, 0x00] with
      | .error (.undefinedOpcode c) => decide (c = b)
      | _ => false) = true := by decide

theorem test_decode_truncated :
    ([[], [0x20], [0x28, 0x12]].all fun (bytes : List Byte) => match decode bytes with
      | .error .truncated => true
      | _ => false) = true := by decide

theorem test_decodeTableWord : decodeTableWord 24 0x341228 = some (.pi 0x1234) ∧ decodeTableWord 8 0x20 = some (.li 0x00) ∧
    decodeTableWord 8 0x2D = none := by decide

/-! ### One step: the vectors -/

theorem test_V30_lrAKu : (run [0x00] ((base.setW 0x0A).setReg 12 0x3C)).map (fun t => (t.a, t.w, t.pc0, t.noint)) = some (0x3C, 0x0A, 0x0101, false) := by decide
theorem test_V31_lrAKl : (run [0x01] ((base.setA 0xFF).setReg 13 0x00)).map (fun t => (t.a, t.w)) = some (0x00, 0x00) := by decide
theorem test_V32_lrAQu : (run [0x02] (base.setReg 14 0x12)).map (fun t => (t.a)) = some (0x12) := by decide
theorem test_V33_lrAQl : (run [0x03] (base.setReg 15 0x34)).map (fun t => (t.a)) = some (0x34) := by decide
theorem test_V34_lrKuA : (run [0x04] (base.setA 0x08)).map (fun t => (t.reg 12, t.reg 13)) = some (0x08, 0x00) := by decide
theorem test_V35_lrKlA : (run [0x05] (base.setA 0x40)).map (fun t => (t.reg 13, t.reg 12)) = some (0x40, 0x00) := by decide
theorem test_V36_lrQuA : (run [0x06] (base.setA 0x02)).map (fun t => (t.reg 14, t.reg 15)) = some (0x02, 0x00) := by decide
theorem test_V37_lrQlA : (run [0x07] ((base.setReg 15 0x99).setA 0x00)).map (fun t => (t.reg 15)) = some (0x00) := by decide
theorem test_V38_lrAIs : (run [0x0A] ({ base with isar := 0x2B, a := 0xFF })).map (fun t => (t.a, t.isar)) = some (0x2B, 0x2B) := by decide
theorem test_V39_lrIsA : (run [0x0B] ({ base with a := 0xFF })).map (fun t => (t.isar, t.a)) = some (0x3F, 0xFF) := by decide
theorem test_V41_lrAS_reaches_KL : (run [0x4C] ((base.setIsar 0x0D).setReg 13 0x66)).map (fun t => (t.a, t.isar)) = some (0x66, 0x0D) := by decide
theorem test_V42_lrAI_wraps : (run [0x4D] ((base.setIsar 0x17).setReg 0x17 0x09)).map (fun t => (t.a, t.isar)) = some (0x09, 0x10) := by decide
theorem test_V43_lrRA_direct : (run [0x59] (base.setA 0x1F)).map (fun t => (t.reg 9, t.reg 8)) = some (0x1F, 0x00) := by decide
theorem test_V44_lrDA_wraps : (run [0x5E] ({ base with isar := 0x20, a := 0xAB })).map (fun t => (t.reg 0x20, t.isar)) = some (0xAB, 0x27) := by decide
theorem test_V46_lm : (run [0x16] ((State.poke 0x0200 0x5A base).setDc0 0x0200)).map (fun t => (t.a, t.dc0, t.w)) = some (0x5A, 0x0201, 0x00) := by decide
theorem test_V47_lm_wraps : (run [0x16] ((State.poke 0xFFFF 0x5A base).setDc0 0xFFFF)).map (fun t => (t.a, t.dc0)) = some (0x5A, 0x0000) := by decide
theorem test_V48_st : (run [0x17] ({ base with dc0 := 0x0800, a := 0x99 })).map (fun t => (t.byteAt 0x0800, t.dc0)) = some (0x99, 0x0801) := by decide
theorem test_V49_st_rom : (run [0x17] (State.poke 0x0000 0x2A { base with dc0 := 0x0000, a := 0x99, platform := { launchPlatform with memMap := [⟨0x0000, 0x00FF, .rom⟩, ⟨0x0100, 0xFFFF, .ram⟩] } })).map (fun t => (t.byteAt 0x0000, t.dc0)) = some (0x2A, 0x0001) := by decide
theorem test_V51_asI : (run [0xCD] ((base.setReg 0x0F 0xFF).setIsar 0x0F |>.setA 0x01)).map (fun t => (t.a, t.w, t.isar)) = some (0x00, 0b00111, 0x08) := by decide
theorem test_V52_asD_keeps_icb : (run [0xCE] (((base.setReg 0x08 0x80).setIsar 0x08 |>.setA 0x80).setW 0x10)).map (fun t => (t.a, t.w, t.isar)) = some (0x00, 0b11111, 0x0F) := by decide
theorem test_V53_asd : (run [0xD0] ((base.setReg 0 0x17).setA 0x8B)).map (fun t => (t.a, t.w)) = some (0x42, 0b00000) := by decide
theorem test_V54_nsS : (run [0xFC] (((base.setReg 0x3F 0x0F).setIsar 0x3F).setA 0xF0)).map (fun t => (t.a, t.w, t.isar)) = some (0x00, 0b00101, 0x3F) := by decide
theorem test_V56_xs : (run [0xE2] ((base.setReg 2 0x0F).setA 0xFF)).map (fun t => (t.a, t.w)) = some (0xF0, 0b00000) := by decide
theorem test_V60_lrKP : (run [0x08] ({ base with pc1 := 0x0123 })).map (fun t => (t.reg 12, t.reg 13, t.pc1)) = some (0x01, 0x23, 0x0123) := by decide
theorem test_V61_lrPK : (run [0x09] ((base.setReg 12 0x08).setReg 13 0x40)).map (fun t => (t.pc1)) = some (0x0840) := by decide
theorem test_V63_pk_wraps : (run [0x0C] ((({ base with pc0 := 0xFFFF, pc1 := 0x5555 } : State).setReg 12 0x04))).map (fun t => (t.pc0, t.pc1, t.noint)) = some (0x0400, 0x0000, true) := by decide
theorem test_V64_lrP0Q : (run [0x0D] (((base.setReg 14 0x0A).setReg 15 0xBC).setPc1 0x5555)).map (fun t => (t.pc0, t.pc1, t.noint)) = some (0x0ABC, 0x5555, true) := by decide
theorem test_V65_lrHDc : (run [0x11] ({ base with dc0 := 0x1234 })).map (fun t => (t.reg 10, t.reg 11, t.dc0)) = some (0x12, 0x34, 0x1234) := by decide
theorem test_V66_lrDcH : (run [0x10] ((base.setReg 10 0x20).setReg 11 0x01)).map (fun t => (t.dc0)) = some (0x2001) := by decide
theorem test_V67_lrQDc : (run [0x0E] ({ base with dc0 := 0xBEEF })).map (fun t => (t.reg 14, t.reg 15)) = some (0xBE, 0xEF) := by decide
theorem test_V68_lrDcQ : (run [0x0F] ((base.setReg 14 0x00).setReg 15 0x10)).map (fun t => (t.dc0)) = some (0x0010) := by decide
theorem test_V69_lrWJ : (run [0x1D] (base.setReg 9 0xF5)).map (fun t => (t.w, t.reg 9, t.noint)) = some (0x15, 0xF5, true) := by decide
theorem test_V70_lrJW : (run [0x1E] ((base.setReg 9 0xFF).setW 0x13)).map (fun t => (t.reg 9, t.w)) = some (0x13, 0x13) := by decide
theorem test_V71_xdc : (run [0x2C] ({ base with dc0 := 0x1000, dc1 := 0x2000 })).map (fun t => (t.dc0, t.dc1)) = some (0x2000, 0x1000) := by decide
theorem test_V73_ds_zero : (run [0x30] (base.setA 0x55)).map (fun t => (t.reg 0, t.w, t.a)) = some (0xFF, 0b00000, 0x55) := by decide
theorem test_V75_dsD : (run [0x3E] ((base.setReg 0x18 0x10).setIsar 0x18)).map (fun t => (t.reg 0x18, t.w, t.isar)) = some (0x0F, 0b00011, 0x1F) := by decide
theorem test_V80_sr1 : (run [0x12] ({ base with a := 0x81, w := 0b01010 })).map (fun t => (t.a, t.w)) = some (0x40, 0b00001) := by decide
theorem test_V82_sl1 : (run [0x13] ({ base with a := 0x41, w := 0b01010 })).map (fun t => (t.a, t.w)) = some (0x82, 0b00000) := by decide
theorem test_V84_sr4 : (run [0x14] ({ base with a := 0xA7, w := 0b01010 })).map (fun t => (t.a, t.w)) = some (0x0A, 0b00001) := by decide
theorem test_V87_sl4 : (run [0x15] ({ base with a := 0x0F, w := 0b01010 })).map (fun t => (t.a, t.w)) = some (0xF0, 0b00000) := by decide
theorem test_V91_com : (run [0x18] ({ base with a := 0xFF })).map (fun t => (t.a, t.w)) = some (0x00, 0b00101) := by decide
theorem test_V93_lnk : (run [0x19] ({ base with a := 0xFF, w := 0b00010 })).map (fun t => (t.a, t.w)) = some (0x00, 0b00111) := by decide
theorem test_V94_lnk_rewrites_flags : (run [0x19] ({ base with a := 0x80, w := 0b01000 })).map (fun t => (t.a, t.w)) = some (0x80, 0b00000) := by decide
theorem test_V95_li : (run [0x20, 0x7F] ({ base with w := 0b00100 })).map (fun t => (t.a, t.w, t.pc0)) = some (0x7F, 0b00100, 0x0102) := by decide
theorem test_V96_ni : (run [0x21, 0x0F] ({ base with a := 0xC5 })).map (fun t => (t.a, t.w)) = some (0x05, 0b00001) := by decide
theorem test_V98_oi : (run [0x22, 0x80] ({ base with a := 0x05 })).map (fun t => (t.a, t.w)) = some (0x85, 0b00000) := by decide
theorem test_V99_xi : (run [0x23, 0x0F] ({ base with a := 0xFF })).map (fun t => (t.a, t.w)) = some (0xF0, 0b00000) := by decide
theorem test_V100_ai : (run [0x24, 0x01] ({ base with a := 0x7F })).map (fun t => (t.a, t.w)) = some (0x80, 0b01000) := by decide
theorem test_VCI5_ci_source : (run [0x25, 0x80] ({ base with a := 0x01 })).map (fun t => (t.a, t.w)) = some (0x7F, 0b01011) := by decide
theorem test_VCI5_ci_f3850 : (run [0x25, 0x80] ({ base with a := 0x01, platform := { launchPlatform with ciWritesA := false } })).map (fun t => (t.a, t.w)) = some (0x01, 0b01011) := by decide
theorem test_V110_am : (run [0x88] ((State.poke 0x0203 0xF0 base).setDc0 0x0203 |>.setA 0x60)).map (fun t => (t.a, t.w, t.dc0)) = some (0x50, 0b00011, 0x0204) := by decide
theorem test_V111_amd : (run [0x89] ((State.poke 0x0203 0x01 base).setDc0 0x0203 |>.setA 0xFF)).map (fun t => (t.a, t.w, t.dc0)) = some (0x00, 0b00111, 0x0204) := by decide
theorem test_V112_nm : (run [0x8A] ((State.poke 0x0203 0xF0 base).setDc0 0x0203 |>.setA 0x0F)).map (fun t => (t.a, t.w, t.dc0)) = some (0x00, 0b00101, 0x0204) := by decide
theorem test_V113_om : (run [0x8B] ((State.poke 0x0203 0xF0 base).setDc0 0x0203 |>.setA 0x0F)).map (fun t => (t.a, t.w, t.dc0)) = some (0xFF, 0b00000, 0x0204) := by decide
theorem test_V114_xm : (run [0x8C] ((State.poke 0x0203 0x3C base).setDc0 0x0203 |>.setA 0x3C)).map (fun t => (t.a, t.w, t.dc0)) = some (0x00, 0b00101, 0x0204) := by decide
theorem test_V116_cm_less : (run [0x8D] ((State.poke 0x0203 0x10 base).setDc0 0x0203 |>.setA 0x20)).map (fun t => (t.a, t.w, t.dc0)) = some (0x20, 0b00000, 0x0204) := by decide
theorem test_V117_cm_greater : (run [0x8D] ((State.poke 0x0203 0x20 base).setDc0 0x0203 |>.setA 0x10)).map (fun t => (t.a, t.w)) = some (0x10, 0b00011) := by decide
theorem test_V118_adc : (run [0x8E] ({ base with a := 0xFE, dc0 := 0x1000, w := 0b01111 })).map (fun t => (t.dc0, t.a, t.w)) = some (0x0FFE, 0xFE, 0b01111) := by decide
theorem test_V120_adc_wraps : (run [0x8E] ({ base with a := 0x80, dc0 := 0x0010 })).map (fun t => (t.dc0)) = some (0xFF90) := by decide
theorem test_V130_di : (run [0x1A] ({ base with w := 0x15 })).map (fun t => (t.w, t.noint)) = some (0x05, false) := by decide
theorem test_V131_ei : (run [0x1B] ({ base with w := 0x05 })).map (fun t => (t.w, t.noint)) = some (0x15, true) := by decide
theorem test_V132_lisu : (run [0x62] ({ base with isar := 0x07 })).map (fun t => (t.isar)) = some (0x17) := by decide
theorem test_V133_lisl : (run [0x68] ({ base with isar := 0x17 })).map (fun t => (t.isar)) = some (0x10) := by decide
theorem test_V137_bt_back : (run [0x81, 0xFE] ({ base with w := 0b00001 })).map (fun t => (t.pc0, t.noint)) = some (0x00FF, false) := by decide
theorem test_V138_bt_not_o : (run [0x87, 0x10] ({ base with w := 0b01000 })).map (fun t => (t.pc0)) = some (0x0102) := by decide
theorem test_V151_pi_wraps : (run [0x28, 0x12, 0x34] ({ base with pc0 := 0xFFFE, a := 0x77 })).map (fun t => (t.a, t.pc1, t.pc0, t.noint)) = some (0x12, 0x0001, 0x1234, true) := by decide
theorem test_V152_pop : (run [0x1C] ({ base with pc1 := 0x0006 })).map (fun t => (t.pc0, t.pc1, t.noint)) = some (0x0006, 0x0006, true) := by decide
theorem test_V153_jmp : (run [0x29, 0x12, 0x34] ({ base with a := 0x77, pc1 := 0x5555 })).map (fun t => (t.a, t.pc0, t.pc1, t.noint)) = some (0x12, 0x1234, 0x5555, true) := by decide
theorem test_V154_dci : (run [0x2A, 0x01, 0x00] ({ base with a := 0x77 })).map (fun t => (t.dc0, t.a, t.pc0, t.noint)) = some (0x0100, 0x77, 0x0103, true) := by decide
theorem test_V157_br7_no : (run [0x8F, 0x10] ({ base with isar := 0x3F })).map (fun t => (t.pc0)) = some (0x0102) := by decide
theorem test_V159_br7_wraps : (run [0x8F, 0x80] ({ base with pc0 := 0x0010, isar := 0x00 })).map (fun t => (t.pc0)) = some (0xFF91) := by decide
theorem test_V165_br15_not_icb : (run [0x9F, 0x02] ({ base with w := 0x10 })).map (fun t => (t.pc0, t.noint)) = some (0x0103, false) := by decide
theorem test_V161_br4_no : (run [0x94, 0xFD] ({ base with pc0 := 0x000A, w := 0b00100 })).map (fun t => (t.pc0)) = some (0x000C) := by decide
theorem test_V170_in : (run [0x26, 0x24] ({ base with portAnswers := [0x80], w := 0b01111 })).map (fun t => (t.a, t.w, t.pc0, t.portAnswers, t.portEvents)) = some (0x80, 0b00000, 0x0102, [], [.input 0x24 0x80]) := by decide
theorem test_V171_out : (run [0x27, 0x24] ({ base with a := 0x3F })).map (fun t => (t.outputs, t.a, t.pc0, t.noint)) = some ([(0x24, 0x3F)], 0x3F, 0x0102, true) := by decide
theorem test_V172_ins0 : (run [0xA0] ({ base with portAnswers := [0x10] })).map (fun t => (t.a, t.w)) = some (0x10, 0b00001) := by decide
theorem test_V173_ins5 : (run [0xA5] ({ base with portAnswers := [0x00], w := 0b01010 })).map (fun t => (t.a, t.w)) = some (0x00, 0b00101) := by decide
theorem test_V174_outs1 : (run [0xB1] ({ base with a := 0x55 })).map (fun t => (t.outputs, t.noint)) = some ([(0x01, 0x55)], false) := by decide
theorem test_V175_outs4 : (run [0xB4] ({ base with a := 0x01 })).map (fun t => (t.outputs, t.noint, t.portLatch 4)) = some ([(0x04, 0x01)], true, 0x01) := by decide
theorem test_V177_ins1_after_outs1 : (run [0xA1] ({ base with a := 0x55, portEvents := [.output 0x01 0x55], portAnswers := [0x00] })).map (fun t => (t.a, t.w, t.portEvents, t.outputs)) = some (0x00, 0b00101, [.output 0x01 0x55, .input 0x01 0x00], [(0x01, 0x55)]) := by decide
theorem test_V180_nop : (run [0x2B] ({ base with pc0 := 0x000D, a := 0x12, w := 0x13 })).map (fun t => (t.pc0, t.a, t.w, t.noint)) = some (0x000E, 0x12, 0x13, false) := by decide
theorem test_V191_inc : (run [0x1F] ({ base with a := 0xFF })).map (fun t => (t.a, t.w)) = some (0x00, 0b00111) := by decide
theorem test_V193_lis : (run [0x7A] ({ base with a := 0xFF, w := 0b00100 })).map (fun t => (t.a, t.w)) = some (0x0A, 0b00100) := by decide

/-- V45, V76, V176, V207: an undefined opcode is refused by name. -/
theorem test_V45_undefined : refusal (step (State.placeBytes 0x0100 [0x4F] base)) = some (.undefinedOpcode 0x4F) := by decide

/-- V195: with ADMIT_UNLISTED false, 1F and 70..7F are refused. -/
theorem test_V195_unlisted :
    refusal (step (State.placeBytes 0x0100 [0x1F]
      { base with platform := { launchPlatform with admitUnlisted := false } })) = some (.undefinedOpcode 0x1F) ∧
    refusal (step (State.placeBytes 0x0100 [0x7A]
      { base with platform := { launchPlatform with admitUnlisted := false } })) = some (.undefinedOpcode 0x7A) := by decide

/-- The state of V181: an interrupt is requested and due. -/
def interrupting : State :=
  { base with pc0 := 0x0123, w := 0x13, pc1 := 0x5555, pins := { extrst := false, intreq := true, intVec := 0x0200 } }

theorem test_V181_intrpt :
    (after (step interrupting)).map (fun t => (t.pc1, t.pc0, t.w, t.noint)) = some (0x0123, 0x0200, 0x03, true) := by decide

/-- V183: the latch holds the request off and the instruction at PC0 executes. -/
theorem test_V183_held_off :
    (after (step (State.placeBytes 0x0123 [0x2B] { interrupting with noint := true }))).map
      (fun t => (t.pc0, t.pc1, t.noint)) = some (0x0124, 0x5555, false) := by decide

/-- V184, V185: RESET comes before the interrupt. -/
def resetting : State :=
  { base with pc0 := 0x0456, w := 0x1F, pc1 := 0x5555, a := 0x77,
              pins := { extrst := true, intreq := true, intVec := 0x0200 } }

theorem test_V184_reset :
    (after (step resetting)).map (fun t => (t.pc1, t.pc0, t.w, t.a, t.noint)) =
      some (0x0456, 0x0000, 0x0F, 0x77, true) := by decide

/-- R222: the environment's next pin levels stand at the next boundary. -/
theorem test_pins_advance :
    (run [0x2B] { base with pinsAhead := [{ extrst := false, intreq := true, intVec := 0x0200 }] }).map
      (fun t => (t.pins.intreq, t.pins.intVec, t.pinsAhead)) = some (true, 0x0200, []) := by decide

/-- R51, U7: a read of absent memory is counted, its value is free. -/
theorem test_absent_read_is_drawn :
    (after (exec .lm { base with dc0 := 0x0200, platform := { launchPlatform with memMap := [] } })).map
      (fun t => (t.dc0, t.absentReads)) = some (0x0201, 1) := by decide

/-- The flag functions: V2, V3, V5, V8, V12; V16, V17; V20, V23, V25. -/
theorem test_flag_functions :
    addFlags 0x7F 0x01 false = (0x80, ⟨true, false, false, false⟩) ∧
    addFlags 0xFF 0x01 false = (0x00, ⟨false, true, true, true⟩) ∧
    addFlags 0x80 0xFF false = (0x7F, ⟨true, false, true, true⟩) ∧
    addFlags 0x00 0xFF false = (0xFF, ⟨false, false, false, false⟩) ∧
    addFlags 0x05 0xEF true = (0xF5, ⟨false, false, false, false⟩) ∧
    logicFlags 0x80 = ⟨false, false, false, false⟩ ∧ logicFlags 0x7F = ⟨false, false, false, true⟩ ∧
    decAddF3850 0x66 0x00 = (0x00, ⟨false, false, false, true⟩) ∧
    decAddF3850 0xFF 0x99 = (0x98, ⟨false, false, true, false⟩) ∧
    decAddF3850 0x12 0x34 = (0xE0, ⟨false, false, false, true⟩) := by decide

/-- Where nothing stands, a placed word is fetched all the same. -/
theorem test_placed_word_in_absent_memory :
    (after (step (State.withFetchWord { State.reset with platform := { launchPlatform with memMap := [] } } 16 0x7F20))).map
      (fun t => (t.a, t.pc0)) = some (0x7F, 0x0002) := by decide

/-- Main memory keeps one form: order of writing does not matter, and a rewritten byte is one entry. -/
theorem test_memory_canonical :
    Memory.put 5 0x03 (Memory.put 3 0x02 (Memory.put 5 0x01 [])) = Memory.put 3 0x02 (Memory.put 5 0x03 []) ∧
      Memory.wf (Memory.put 3 0x02 (Memory.put 5 0x01 [])) = true ∧ Memory.wf [(5, 0x01), (3, 0x02)] = false := by decide

/-! ### Witnesses: the hypotheses of each statement are met together -/

/-- A state with these bytes at PC0 0100. -/
def placed (bytes : List Byte) : State := State.placeBytes 0x0100 bytes base

theorem witness_DecodeOfEncodeIsTheInstruction : (Instr.insN 4).wellFormed = true := by decide

theorem witness_DecodedBytesAreTheEncoding : decode [0x20, 0x7F, 0x2B] = .ok (.li 0x7F, [0x2B]) := rfl

theorem witness_StepRunsTheDecodedInstruction :
    (placed [0x20, 0x7F, 0x2B]).pins.extrst = false ∧ (placed [0x20, 0x7F, 0x2B]).interruptDue = false ∧
      decode [(placed [0x20, 0x7F, 0x2B]).byteAt 0x0100, (placed [0x20, 0x7F, 0x2B]).byteAt 0x0101,
        (placed [0x20, 0x7F, 0x2B]).byteAt 0x0102] = .ok (.li 0x7F, [0x2B]) ∧
      (∀ k : Nat, k + 1 < 3 → (placed [0x20, 0x7F, 0x2B]).kindAt (0x0100 + BitVec.ofNat 16 k) ≠ .absent) ∧
      (placed [0x20, 0x7F, 0x2B]).pinsAhead = [] := by
  refine ⟨rfl, rfl, rfl, fun k hk => ?_, rfl⟩
  have h : ∀ k : Fin 2, (placed [0x20, 0x7F, 0x2B]).kindAt (0x0100 + BitVec.ofNat 16 k.val) ≠ .absent := by decide
  exact h ⟨k, by omega⟩

theorem witness_PlacedWordIsRunNext : decodeTableWord 16 0x7F20 = some (.li 0x7F) := by decide

theorem witness_InterruptEntrySavesPcAndClearsIcb :
    interrupting.pins.extrst = false ∧ interrupting.pins.intreq = true ∧ interrupting.icb = true ∧
      interrupting.noint = false := by decide

theorem witness_ResetComesBeforeEverything : resetting.pins.extrst = true := by decide

theorem witness_NoInterruptUnlessRequestedEnabledAndNotHeldOff :
    (interrupting.setW 0x03).pins.extrst = false ∧ (interrupting.setW 0x03).icb = false ∧
      (interrupting.setNoint true).noint = true ∧ base.pins.intreq = false := by decide

theorem witness_HoldOffIsSetExactlyByTaggedRows :
    (∃ t, exec .ei base = .next t) ∧ (∃ t, exec .nop base = .next t) ∧
      ((∃ t, step interrupting = .next t) ∧ interrupting.interruptDue = true) ∧
      ((∃ t, step resetting = .next t) ∧ resetting.pins.extrst = true) ∧
      (interrupting.setNoint true).noint = true ∧ (interrupting.setNoint true).pins.extrst = false :=
  ⟨⟨_, rfl⟩, ⟨_, rfl⟩, ⟨⟨_, rfl⟩, by decide⟩, ⟨⟨_, rfl⟩, by decide⟩, by decide, by decide⟩

theorem witness_InterruptWindowAfterATaggedInstruction :
    ∃ s s' t i, s.pins.extrst = false ∧ s.interruptDue = false ∧ fetch s = .ok (i, s') ∧ tagged i = true ∧
      step s = .next t ∧ t.pins.extrst = false ∧ t.pins.intreq = true ∧ t.icb = true :=
  ⟨placed [0x1B] |>.setW 0x00 |> fun s => { s with pins := { extrst := false, intreq := true, intVec := 0x0200 } },
    _, _, .ei, rfl, rfl, rfl, rfl, rfl, rfl, rfl, rfl⟩

theorem witness_EiPopReturnsBeforeTheNextInterrupt :
    let s := placed [0x1B, 0x1C]
    s.pins.extrst = false ∧ s.interruptDue = false ∧ (∀ p ∈ s.pinsAhead, p.extrst = false) ∧
      s.kindAt s.pc0 ≠ .absent ∧ s.kindAt (s.pc0 + 1) ≠ .absent ∧ s.byteAt s.pc0 = 0x1B ∧
      s.byteAt (s.pc0 + 1) = 0x1C := by decide

theorem witness_StepStopsExactlyAtUndefinedOpcodes :
    (placed [0xFF]).pins.extrst = false ∧ (placed [0xFF]).interruptDue = false ∧
      (State.memRead 0x0100 (placed [0xFF])).1 ∈ undefinedOpcodes := by decide

theorem witness_EveryInstructionCompletesInEveryState :
    (Instr.outsN 15).wellFormed = true ∧ base.platform.admitUnlisted = true ∧ Instr.outsN 15 ≠ .inc ∧
      ∀ n, Instr.outsN 15 ≠ .lis n := by
  refine ⟨rfl, rfl, by decide, fun n h => ?_⟩
  cases h

theorem witness_StepKeepsMemoryCanonical :
    (placed [0x17]).Inv ∧ ∃ t, step (placed [0x17]) = .next t := ⟨rfl, _, rfl⟩

theorem witness_InstructionsWriteOnlyWhatTheirRulesName :
    (∃ t, exec .st base = .next t) ∧ Part.byte 0x0001 ∉ writes base .st ∧ Part.reg 3 ∉ writes base .st := by
  have h : writes base .st = [.dc0, .byte 0x0000] := rfl
  refine ⟨⟨_, rfl⟩, ?_, ?_⟩ <;> rw [h] <;> simp

theorem witness_MemoryChangesOnlyByAStoreToRam :
    ∃ t, step (State.poke 0x0800 0x11 { placed [0x17] with dc0 := 0x0800, a := 0x99 }) = .next t ∧
      t.byteAt 0x0800 ≠ (State.poke 0x0800 0x11 { placed [0x17] with dc0 := 0x0800, a := 0x99 }).byteAt 0x0800 :=
  ⟨_, rfl, by decide⟩

theorem witness_IcbIsSetOnlyByEiOrLrWJ :
    (∃ t, step (placed [0x1B]) = .next t ∧ (placed [0x1B]).icb = false ∧ t.icb = true) ∧
      ∃ t, step (State.setReg 9 0x10 (placed [0x1D])) = .next t ∧ (State.setReg 9 0x10 (placed [0x1D])).icb = false ∧
        t.icb = true := ⟨⟨_, rfl, by decide, by decide⟩, ⟨_, rfl, by decide, by decide⟩⟩

theorem witness_Pc1AndDc1HaveOnlyTheWritersNamed :
    (∃ t, step (placed [0x28, 0x12, 0x34]) = .next t ∧ t.pc1 ≠ (placed [0x28, 0x12, 0x34]).pc1) ∧
      ∃ t, step ((placed [0x2C]).setDc0 0x1000) = .next t ∧ t.dc1 ≠ ((placed [0x2C]).setDc0 0x1000).dc1 :=
  ⟨⟨_, rfl, by decide⟩, ⟨_, rfl, by decide⟩⟩

theorem witness_OutputHistoryGrowsAndPlatformIsFixed : ∃ t, step (placed [0x27, 0x24]) = .next t := ⟨_, rfl⟩

/-- A machine with ram, rom and nothing, each somewhere. -/
def mapped : State :=
  { base with platform := { launchPlatform with memMap := [⟨0x0000, 0x00FF, .rom⟩, ⟨0x0100, 0x01FF, .ram⟩] } }

theorem witness_MemoryReadsAndWritesFollowTheMap :
    mapped.kindAt 0x00FF = .rom ∧ mapped.kindAt 0x0100 = .ram ∧ mapped.kindAt 0x01FF = .ram ∧
      mapped.kindAt 0x0200 = .absent ∧ mapped.mem.find 0x0100 = none := by decide

theorem witness_StoreIsSeenByTheNextFetch :
    (base.setDc0 0x0101).dc0 = (base.setDc0 0x0101).pc0 + 1 ∧ (base.setDc0 0x0101).kindAt 0x0101 = .ram := by decide

theorem witness_DecimalAdditionIsDecimal : (0 < 100 ∧ 99 < 100) ∧ packedDecimal 99 = 0x99 ∧ packedDecimal 0 = 0x00 := by decide

theorem witness_short_ports : 4 ≤ (4 : BitVec 4).toNat ∧ 4 ≤ (15 : BitVec 4).toNat := by decide

theorem witness_ShortPortInstructionsHaveNoPorts2And3 :
    ((2 : Byte) = 2 ∨ (2 : Byte) = 3) ∧ ((3 : Byte) = 2 ∨ (3 : Byte) = 3) ∧ (0xB3 : Byte) ∈ ([0xA2, 0xA3, 0xB2, 0xB3] : List Byte) := by
  decide

/-- A machine that does not admit the unlisted instructions. -/
def listedOnly : State := { base with platform := { launchPlatform with admitUnlisted := false } }

theorem witness_UnlistedInstructionsRunWhenAdmitted :
    base.platform.admitUnlisted = true ∧ listedOnly.platform.admitUnlisted = false ∧
      (exec .inc listedOnly = .refused (.undefinedOpcode 0x1F)) ∧ (exec (.lis 15) listedOnly = .refused (.undefinedOpcode 0x7F)) :=
  ⟨rfl, rfl, rfl, rfl⟩

end Sys2Proof.Tests
end

section
/-! PROOFS. The rules of 10_state.md: the flag computations, scratchpad operands, and the frame of instructions and steps. -/

namespace Sys2Proof.Machine

open Sys2Proof.Spec

/-! ### Bits as numbers -/

theorem getLsbD_iff_toNat {n : Nat} (x : BitVec n) (i : Nat) : x.getLsbD i = true ↔ x.toNat / 2 ^ i % 2 = 1 := by
  simp [BitVec.getLsbD, Nat.testBit_eq_decide_div_mod_eq]

theorem beq_zero_iff_toNat {n : Nat} (x : BitVec n) : (x == 0) = true ↔ x.toNat = 0 := by
  rw [beq_iff_eq, ← BitVec.toNat_inj, BitVec.ofNat_eq_ofNat, BitVec.toNat_zero]

theorem not_getLsbD_seven_iff (v : Byte) : (!v.getLsbD 7) = true ↔ v.toNat < 128 := by
  have hv := v.isLt
  rw [Bool.not_eq_true', ← Bool.not_eq_true, getLsbD_iff_toNat]
  omega

/-! ### AddFlags and LogicFlags (R20, R21) -/

/-- The nine-bit sum of R20 does not wrap. -/
theorem nineBitSum_toNat (x y : Byte) (cin : Bool) :
    (x.setWidth 9 + y.setWidth 9 + (BitVec.ofBool cin).setWidth 9 : BitVec 9).toNat =
      x.toNat + y.toNat + cin.toNat := by
  have hx := x.isLt
  have hy := y.isLt
  have hc := cin.toNat_lt
  simp only [BitVec.toNat_add, BitVec.toNat_setWidth, BitVec.toNat_ofBool]
  omega

/-- The sum of the lower seven bits, whose bit 7 is R20's carry into bit 7. -/
theorem sevenBitSum_toNat (x y : Byte) (cin : Bool) :
    ((x.extractLsb' 0 7).setWidth 8 + (y.extractLsb' 0 7).setWidth 8 + (BitVec.ofBool cin).setWidth 8 : Byte).toNat =
      x.toNat % 128 + y.toNat % 128 + cin.toNat := by
  have hc := cin.toNat_lt
  simp only [BitVec.toNat_add, BitVec.toNat_setWidth, BitVec.toNat_ofBool, BitVec.extractLsb'_toNat, Nat.shiftRight_zero]
  omega

theorem addFlags_result_toNat (x y : Byte) (cin : Bool) :
    (addFlags x y cin).1.toNat = (x.toNat + y.toNat + cin.toNat) % 256 := by
  simp only [addFlags, BitVec.extractLsb'_toNat, nineBitSum_toNat, Nat.shiftRight_zero]

theorem addFlags_carry_iff (x y : Byte) (cin : Bool) :
    (addFlags x y cin).2.c = true ↔ 256 ≤ x.toNat + y.toNat + cin.toNat := by
  have hx := x.isLt
  have hy := y.isLt
  have hc := cin.toNat_lt
  simp only [addFlags, getLsbD_iff_toNat, nineBitSum_toNat]
  omega

/-- R20's overflow, the carry out of bit 7 against the carry into it. -/
theorem addFlags_overflow_iff_carries (x y : Byte) (cin : Bool) :
    (addFlags x y cin).2.o = true ↔
      ¬(256 ≤ x.toNat + y.toNat + cin.toNat ↔ 128 ≤ x.toNat % 128 + y.toNat % 128 + cin.toNat) := by
  have hx := x.isLt
  have hy := y.isLt
  have hc := cin.toNat_lt
  simp only [addFlags]
  rw [Bool.xor_iff_ne, ne_eq, Bool.eq_iff_iff, getLsbD_iff_toNat, getLsbD_iff_toNat, nineBitSum_toNat,
    sevenBitSum_toNat]
  omega

theorem addFlags_overflow_iff (x y : Byte) (cin : Bool) :
    (addFlags x y cin).2.o = true ↔
      x.toInt + y.toInt + cin.toNat < -128 ∨ 127 < x.toInt + y.toInt + cin.toNat := by
  have hx := x.isLt
  have hy := y.isLt
  have hc := cin.toNat_lt
  rw [addFlags_overflow_iff_carries, BitVec.toInt_eq_toNat_cond, BitVec.toInt_eq_toNat_cond]
  split <;> split <;> omega

theorem addFlags_zero_iff (x y : Byte) (cin : Bool) :
    (addFlags x y cin).2.z = true ↔ (x.toNat + y.toNat + cin.toNat) % 256 = 0 := by
  rw [← addFlags_result_toNat]
  exact beq_zero_iff_toNat _

theorem addFlags_sign_iff (x y : Byte) (cin : Bool) :
    (addFlags x y cin).2.s = true ↔ (x.toNat + y.toNat + cin.toNat) % 256 < 128 := by
  rw [← addFlags_result_toNat]
  exact not_getLsbD_seven_iff _

/-- Settles O27: each component of AddFlags, in numbers. -/
theorem addFlagsIsArithmetic : Obligations.AddFlagsIsArithmetic := fun x y cin =>
  ⟨addFlags_result_toNat x y cin, addFlags_carry_iff x y cin, addFlags_overflow_iff x y cin,
    addFlags_zero_iff x y cin, addFlags_sign_iff x y cin⟩

/-- Settles O28: O and C are constants, Z and S are read off the value's number. -/
theorem logicFlagsClearOverflowAndCarry : Obligations.LogicFlagsClearOverflowAndCarry := fun v =>
  ⟨rfl, rfl, beq_zero_iff_toNat v, not_getLsbD_seven_iff v⟩

/-- Settles O19: the three values stand in `State.reset`. -/
theorem resetStartsAtZeroWithInterruptsOff : Obligations.ResetStartsAtZeroWithInterruptsOff :=
  ⟨rfl, rfl, rfl⟩

/-! ### ISAR's halves and the scratchpad operand (R14, R27) -/

@[simp] theorem isarUpper_toNat (i : ScratchIndex) : (isarUpper i).toNat = i.toNat / 8 := by
  have hi := i.isLt
  simp only [isarUpper, BitVec.extractLsb'_toNat, Nat.shiftRight_eq_div_pow]
  omega

@[simp] theorem isarLower_toNat (i : ScratchIndex) : (isarLower i).toNat = i.toNat % 8 := by
  simp [isarLower]

@[simp] theorem joinIsar_toNat (u l : BitVec 3) : (joinIsar u l).toNat = u.toNat * 8 + l.toNat := by
  have hl := l.isLt
  rw [joinIsar, BitVec.toNat_append, ← Nat.shiftLeft_add_eq_or_of_lt hl, Nat.shiftLeft_eq]

theorem joinIsar_upper_half (u l : BitVec 3) : (joinIsar u l).toNat / 8 = u.toNat := by
  have hl := l.isLt
  rw [joinIsar_toNat]
  omega

theorem joinIsar_lower_half (u l : BitVec 3) : (joinIsar u l).toNat % 8 = l.toNat := by
  have hl := l.isLt
  rw [joinIsar_toNat]
  omega

/-- The operand's effect on ISAR, as R14's halves and as R27's numbers. -/
theorem joinIsar_stepped (i : ScratchIndex) (d : BitVec 3) :
    joinIsar (isarUpper i) (isarLower i + d) = BitVec.ofNat 6 (i.toNat / 8 * 8 + (i.toNat % 8 + d.toNat) % 8) := by
  have hi := i.isLt
  apply BitVec.eq_of_toNat_eq
  simp only [joinIsar_toNat, isarUpper_toNat, BitVec.toNat_add, isarLower_toNat, BitVec.toNat_ofNat]
  omega

theorem State.scratchRef_eq (s : State) (r : ScratchOperand) : s.scratchRef r = (selected r s, stepped r s) := by
  cases r with
  | direct n => rfl
  | isar => rfl
  | isarInc => exact Prod.ext rfl (congrArg s.setIsar (joinIsar_stepped s.isar 1))
  | isarDec => exact Prod.ext rfl (congrArg s.setIsar (joinIsar_stepped s.isar 7))

theorem scratchField_fieldOf (r : ScratchOperand) : scratchField (BitVec.ofNat 8 (fieldOf r)) = r := by
  cases r with
  | direct n => revert n; decide
  | _ => rfl

theorem rowOf_field_fifteen : ∀ b ∈ ([0x3F, 0x4F, 0x5F, 0xCF, 0xDF, 0xEF, 0xFF] : List Byte), (rowOf b).isNone := by
  decide

/-- Settles O30: R27 for each operand form, the field of each, and no row for a field of 15. -/
theorem scratchpadOperandsResolve : Obligations.ScratchpadOperandsResolve :=
  ⟨fun r s => s.scratchRef_eq r, scratchField_fieldOf,
    fun b hb rest => decode_undefined rest (Option.isNone_iff_eq_none.mp (rowOf_field_fifteen b hb))⟩

/-! ### The frame of an operation

`writes s i` lists the parts of the state an instruction may write. Each rule below adds one operation of the model to a run
of operations that started at `s` and has stayed within a list of parts. -/

/-- Going from `s` to `t`, nothing has changed but parts in the list. -/
def ChangesOnly (ps : List Part) (s t : State) : Prop := ∀ p ∉ ps, Agrees s t p

section
variable {ps : List Part} {s t : State}

theorem ChangesOnly.refl : ChangesOnly ps s s := by
  intro p _
  cases p with
  | portInput => exact ⟨rfl, rfl⟩
  | pins => exact ⟨rfl, rfl⟩
  | _ => exact rfl

theorem ChangesOnly.setA (h : ChangesOnly ps s t) {v : Byte} (hmem : .a ∈ ps := by simp [writes]) :
    ChangesOnly ps s (t.setA v) := by
  intro p hp
  cases p with
  | a => exact absurd hmem hp
  | _ => exact h _ hp

theorem ChangesOnly.setDc0 (h : ChangesOnly ps s t) {v : Word} (hmem : .dc0 ∈ ps := by simp [writes]) :
    ChangesOnly ps s (t.setDc0 v) := by
  intro p hp
  cases p with
  | dc0 => exact absurd hmem hp
  | _ => exact h _ hp

theorem ChangesOnly.setDc1 (h : ChangesOnly ps s t) {v : Word} (hmem : .dc1 ∈ ps := by simp [writes]) :
    ChangesOnly ps s (t.setDc1 v) := by
  intro p hp
  cases p with
  | dc1 => exact absurd hmem hp
  | _ => exact h _ hp

theorem ChangesOnly.setPc1 (h : ChangesOnly ps s t) {v : Word} (hmem : .pc1 ∈ ps := by simp [writes]) :
    ChangesOnly ps s (t.setPc1 v) := by
  intro p hp
  cases p with
  | pc1 => exact absurd hmem hp
  | _ => exact h _ hp

/-- A write of ISAR that keeps the halves the list does not name. -/
theorem ChangesOnly.setIsar (h : ChangesOnly ps s t) {v : ScratchIndex}
    (hupper : .isarUpper ∈ ps ∨ v.toNat / 8 = t.isar.toNat / 8)
    (hlower : .isarLower ∈ ps ∨ v.toNat % 8 = t.isar.toNat % 8) : ChangesOnly ps s (t.setIsar v) := by
  intro p hp
  cases p with
  | isarUpper => exact (hupper.resolve_left hp).trans (h _ hp)
  | isarLower => exact (hlower.resolve_left hp).trans (h _ hp)
  | _ => exact h _ hp

theorem ChangesOnly.setIsarUpper (h : ChangesOnly ps s t) {u : BitVec 3} (hmem : .isarUpper ∈ ps := by simp [writes]) :
    ChangesOnly ps s (t.setIsar (joinIsar u (isarLower t.isar))) :=
  h.setIsar (.inl hmem) (.inr (by rw [joinIsar_lower_half, isarLower_toNat]))

theorem ChangesOnly.setIsarLower (h : ChangesOnly ps s t) {l : BitVec 3} (hmem : .isarLower ∈ ps := by simp [writes]) :
    ChangesOnly ps s (t.setIsar (joinIsar (isarUpper t.isar) l)) :=
  h.setIsar (.inr (by rw [joinIsar_upper_half, isarUpper_toNat])) (.inl hmem)

theorem ChangesOnly.setReg (h : ChangesOnly ps s t) {i : ScratchIndex} {v : Byte}
    (hmem : .reg i ∈ ps := by simp [writes]) : ChangesOnly ps s (t.setReg i v) := by
  intro p hp
  cases p with
  | reg j => exact (t.reg_setReg_other v fun e => hp (by rwa [e])).trans (h _ hp)
  | _ => exact h _ hp

theorem ChangesOnly.setPair (h : ChangesOnly ps s t) {u l : ScratchIndex} {x : Word}
    (hu : .reg u ∈ ps) (hl : .reg l ∈ ps) : ChangesOnly ps s (t.setPair u l x) :=
  (h.setReg hu).setReg hl

theorem ChangesOnly.setFlags (h : ChangesOnly ps s t) {f : Flags} (hmem : .flags ∈ ps := by simp [writes]) :
    ChangesOnly ps s (t.setFlags f) := by
  intro p hp
  cases p with
  | flags => exact absurd hmem hp
  | icb => exact (t.icb_setFlags f).trans (h _ hp)
  | _ => exact h _ hp

theorem ChangesOnly.setIcb (h : ChangesOnly ps s t) {b : Bool} (hmem : .icb ∈ ps := by simp [writes]) :
    ChangesOnly ps s (t.setIcb b) := by
  intro p hp
  cases p with
  | icb => exact absurd hmem hp
  | flags => exact (t.flags_setIcb b).trans (h _ hp)
  | _ => exact h _ hp

theorem ChangesOnly.setW (h : ChangesOnly ps s t) {v : BitVec 5} (hflags : .flags ∈ ps := by simp [writes])
    (hicb : .icb ∈ ps := by simp [writes]) : ChangesOnly ps s (t.setW v) := by
  intro p hp
  cases p with
  | flags => exact absurd hflags hp
  | icb => exact absurd hicb hp
  | _ => exact h _ hp

/-- A memory write changes the byte at its address, and that only in ram. -/
theorem ChangesOnly.memWrite (h : ChangesOnly ps s t) {x : Word} {v : Byte} (hmem : t.kindAt x = .ram → .byte x ∈ ps) :
    ChangesOnly ps s (t.memWrite x v) := by
  rcases t.memWrite_cases x v with ⟨hram, e⟩ | ⟨_, e⟩
  · rw [e]
    intro p hp
    cases p with
    | byte y => exact (t.byteAt_poke_other v fun e => hp (by rw [e]; exact hmem hram)).trans (h _ hp)
    | _ => exact h _ hp
  · rw [e]
    exact h

theorem ChangesOnly.memRead (h : ChangesOnly ps s t) {x : Word} (hmem : t.kindAt x = .absent → .absentReads ∈ ps) :
    ChangesOnly ps s (t.memRead x).2 := by
  rcases t.memRead_cases x with ⟨_, e⟩ | ⟨habsent, e⟩
  · rw [e]
    exact h
  · rw [e]
    intro p hp
    cases p with
    | absentReads => exact absurd (hmem habsent) hp
    | _ => exact h _ hp

theorem ChangesOnly.memOperand (h : ChangesOnly ps s t) (hdc0 : .dc0 ∈ ps := by simp [writes])
    (hdraw : t.kindAt t.dc0 = .absent → .absentReads ∈ ps := by simp +contextual [writes, drawParts]) :
    ChangesOnly ps s t.memOperand.2 :=
  (h.memRead hdraw).setDc0 hdc0

theorem ChangesOnly.portIn (h : ChangesOnly ps s t) {port : Byte} (hinput : .portInput ∈ ps := by simp [writes])
    (hevents : .portEvents ∈ ps := by simp [writes]) : ChangesOnly ps s (t.portIn port).2 := by
  intro p hp
  cases p with
  | portInput => exact absurd hinput hp
  | portEvents => exact absurd hevents hp
  | outputs => exact (t.portIn_outputs port).trans (h _ hp)
  | _ => exact h _ hp

theorem ChangesOnly.portOut (h : ChangesOnly ps s t) {port v : Byte} (houtputs : .outputs ∈ ps := by simp [writes])
    (hevents : .portEvents ∈ ps := by simp [writes]) : ChangesOnly ps s (t.portOut port v) := by
  intro p hp
  cases p with
  | outputs => exact absurd houtputs hp
  | portEvents => exact absurd hevents hp
  | portInput => exact ⟨(h _ hp).1, (t.portOut_inputs port v).trans (h _ hp).2⟩
  | _ => exact h _ hp

theorem ChangesOnly.setPc0 (h : ChangesOnly ps s t) {v : Word} : ChangesOnly ps s (t.setPc0 v) := by
  intro p hp
  cases p <;> exact h _ hp

theorem ChangesOnly.setNoint (h : ChangesOnly ps s t) {b : Bool} : ChangesOnly ps s (t.setNoint b) := by
  intro p hp
  cases p <;> exact h _ hp

/-- INTRPT and RESET write ICB and PC1. -/
theorem ChangesOnly.enter (h : ChangesOnly ps s t) {target : Word} (hpc1 : .pc1 ∈ ps) (hicb : .icb ∈ ps) :
    ChangesOnly ps s (t.enter target) :=
  ((h.setPc1 hpc1).setPc0.setIcb hicb).setNoint

theorem ChangesOnly.nextPins (h : ChangesOnly ps s t) (hmem : .pins ∈ ps) : ChangesOnly ps s t.nextPins := by
  rw [t.nextPins_eq]
  intro p hp
  cases p with
  | pins => exact absurd hmem hp
  | _ => exact h _ hp

/-- A fetch draws from absent memory, and that is all. -/
theorem ChangesOnly.fetch {i : Instr} (hfetch : fetch s = .ok (i, t)) (hmem : .absentReads ∈ ps) : ChangesOnly ps s t := by
  rw [fetch_state hfetch]
  intro p hp
  cases p with
  | absentReads => exact absurd hmem hp
  | portInput => exact ⟨rfl, rfl⟩
  | pins => exact ⟨rfl, rfl⟩
  | _ => exact rfl

theorem ChangesOnly.advance (h : ChangesOnly ps s t) {n : Word} : ChangesOnly ps s (t.advance n) :=
  h.setPc0.setNoint

theorem ChangesOnly.advanceHeld (h : ChangesOnly ps s t) {n : Word} : ChangesOnly ps s (t.advanceHeld n) :=
  h.setPc0.setNoint

theorem ChangesOnly.jumpHeld (h : ChangesOnly ps s t) {target : Word} : ChangesOnly ps s (t.jumpHeld target) :=
  h.setPc0.setNoint

theorem ChangesOnly.branch (h : ChangesOnly ps s t) {taken : Bool} {dd : Byte} : ChangesOnly ps s (t.branch taken dd) :=
  h.setPc0.setNoint

theorem ChangesOnly.setAFlags (h : ChangesOnly ps s t) {q : Byte × Flags} (ha : .a ∈ ps := by simp [writes])
    (hflags : .flags ∈ ps := by simp [writes]) : ChangesOnly ps s (t.setAFlags q) :=
  (h.setA ha).setFlags hflags

theorem ChangesOnly.setALogic (h : ChangesOnly ps s t) {v : Byte} (ha : .a ∈ ps := by simp [writes])
    (hflags : .flags ∈ ps := by simp [writes]) : ChangesOnly ps s (t.setALogic v) :=
  (h.setA ha).setFlags hflags

/-- A scratchpad operand changes the lower half of ISAR, where it steps it. -/
theorem ChangesOnly.scratchRef (h : ChangesOnly ps s t) {r : ScratchOperand}
    (hstep : ∀ p ∈ stepParts r, p ∈ ps := by simp +contextual [writes]) : ChangesOnly ps s (t.scratchRef r).2 := by
  cases r with
  | direct n => exact h
  | isar => exact h
  | isarInc => exact h.setIsarLower (hstep _ (.head _))
  | isarDec => exact h.setIsarLower (hstep _ (.head _))

theorem ChangesOnly.of_next {u : State}
    (hnext : (.next u : Host.Outcome State Fault Refusal) = .next t) (h : ChangesOnly ps s u) : ChangesOnly ps s t :=
  Host.Outcome.next.inj hnext ▸ h

end

/-! ### The frame of every instruction -/

theorem exec_inc_next {s t : State} (h : exec .inc s = .next t) :
    t = (s.setAFlags (addFlags s.a 0x01 false)).advance 1 := by
  simp only [exec, execInc] at h
  split at h
  · exact (Host.Outcome.next.inj h).symm
  · cases h

theorem exec_lis_next {n : BitVec 4} {s t : State} (h : exec (.lis n) s = .next t) :
    t = (s.setA (n.setWidth 8)).advance 1 := by
  simp only [exec, execLis] at h
  split at h
  · exact (Host.Outcome.next.inj h).symm
  · cases h

/-- CI's write of A is in the list exactly where the parameter CI_WRITES_A asks for it (R157). -/
theorem execCi_changesOnly (s : State) (aa : Byte) (f : Flags) (v : Byte) :
    ChangesOnly (writes s (.ci aa)) s ((s.setA (if s.platform.ciWritesA then v else s.a)).setFlags f) := by
  cases hci : s.platform.ciWritesA with
  | true => exact (ChangesOnly.refl.setA (by simp [writes, hci])).setFlags (by simp [writes, hci])
  | false => exact (ChangesOnly.refl (s := s)).setFlags (by simp [writes, hci])

/-- What an instruction changes is in the list read off its rule. -/
theorem exec_changesOnly {i : Instr} {s t : State} (h : exec i s = .next t) : ChangesOnly (writes s i) s t := by
  cases i with
  | inc => exact exec_inc_next h ▸ ChangesOnly.refl.setAFlags.advance
  | lis n => exact exec_lis_next h ▸ ChangesOnly.refl.setA.advance
  | lrAKu | lrAKl | lrAQu | lrAQl | lrAIs | li => exact .of_next h ChangesOnly.refl.setA.advance
  | lrKuA | lrKlA | lrQuA | lrQlA | lrJW => exact .of_next h (ChangesOnly.refl.setReg (.head _)).advance
  | lrKP | lrQDc | lrHDc => exact .of_next h (ChangesOnly.refl.setPair (.head _) (.tail _ (.head _))).advance
  | lrPK => exact .of_next h ChangesOnly.refl.setPc1.advance
  | pk => exact .of_next h ChangesOnly.refl.setPc1.jumpHeld
  | pi => exact .of_next h ChangesOnly.refl.setA.setPc1.jumpHeld
  | jmp => exact .of_next h ChangesOnly.refl.setA.jumpHeld
  | lrP0Q | pop => exact .of_next h ChangesOnly.refl.jumpHeld
  | nop => exact .of_next h ChangesOnly.refl.advance
  | bt | br7 | brT => exact .of_next h ChangesOnly.refl.branch
  | lrDcQ | lrDcH | adc => exact .of_next h ChangesOnly.refl.setDc0.advance
  | dci => exact .of_next h ChangesOnly.refl.setDc0.advanceHeld
  | xdc => exact .of_next h ChangesOnly.refl.setDc0.setDc1.advance
  | sr1 | sl1 | sr4 | sl4 | com | ni | oi | xi => exact .of_next h ChangesOnly.refl.setALogic.advance
  | lnk | ai => exact .of_next h ChangesOnly.refl.setAFlags.advance
  | ci aa => exact .of_next h (execCi_changesOnly s aa _ _).advance
  | lm => exact .of_next h ChangesOnly.refl.memOperand.setA.advance
  | st => exact .of_next h (ChangesOnly.refl.memWrite fun hram => by simp [writes, hram]).setDc0.advance
  | am | amd => exact .of_next h ChangesOnly.refl.memOperand.setAFlags.advance
  | nm | om | xm => exact .of_next h ChangesOnly.refl.memOperand.setALogic.advance
  | cm => exact .of_next h ChangesOnly.refl.memOperand.setFlags.advance
  | di => exact .of_next h ChangesOnly.refl.setIcb.advance
  | ei => exact .of_next h ChangesOnly.refl.setIcb.advanceHeld
  | lrWJ => exact .of_next h ChangesOnly.refl.setW.advanceHeld
  | lrIsA => exact .of_next h (ChangesOnly.refl.setIsar (.inl (.head _)) (.inl (.tail _ (.head _)))).advance
  | lisu => exact .of_next h ChangesOnly.refl.setIsarUpper.advance
  | lisl => exact .of_next h ChangesOnly.refl.setIsarLower.advance
  | ds => exact .of_next h (ChangesOnly.refl.scratchRef.setReg (by simp [writes, State.scratchRef_eq])).setFlags.advance
  | lrAR => exact .of_next h ChangesOnly.refl.scratchRef.setA.advance
  | lrRA => exact .of_next h (ChangesOnly.refl.scratchRef.setReg (by simp [writes, State.scratchRef_eq])).advance
  | asR | asdR => exact .of_next h ChangesOnly.refl.scratchRef.setAFlags.advance
  | nsR | xsR => exact .of_next h ChangesOnly.refl.scratchRef.setALogic.advance
  | inPort | ins01 | insN => exact .of_next h ChangesOnly.refl.portIn.setALogic.advance
  | outPort | outsN => exact .of_next h ChangesOnly.refl.portOut.advanceHeld
  | outs01 => exact .of_next h ChangesOnly.refl.portOut.advance

/-- Settles O20, operation by operation along each instruction's meaning. -/
theorem instructionsWriteOnlyWhatTheirRulesName : Obligations.InstructionsWriteOnlyWhatTheirRulesName :=
  fun _ _ _ h => exec_changesOnly h

/-! ### The frame of a step -/

theorem agrees_trans {s t u : State} {p : Part} (hst : Agrees s t p) (htu : Agrees t u p) : Agrees s u p := by
  cases p with
  | portInput => exact ⟨htu.1.trans hst.1, htu.2.trans hst.2⟩
  | pins => exact ⟨htu.1.trans hst.1, htu.2.trans hst.2⟩
  | _ => exact Eq.trans htu hst

/-- A part that changes in a step, the draws and the pins aside, is one that INTRPT or RESET writes, or one that the rule of
the instruction fetched names. -/
theorem step_changes {s t : State} {p : Part} (h : step s = .next t) (hp : ¬Agrees s t p) (hdraw : p ≠ .absentReads)
    (hpins : p ≠ .pins) :
    ((s.pins.extrst = true ∨ s.interruptDue = true) ∧ p ∈ [Part.pc1, Part.icb]) ∨
      ∃ i s', fetch s = .ok (i, s') ∧ p ∈ writes s' i := by
  have henter (target : Word) (hch : ¬Agrees s (s.enter target).nextPins p) : p ∈ [Part.pc1, Part.icb] := by
    by_contra hn
    have hframe : ChangesOnly [.pc1, .icb, .pins] s (s.enter target).nextPins :=
      (ChangesOnly.refl.enter (by simp) (by simp)).nextPins (by simp)
    exact hch (hframe p (by simpa [hpins] using hn))
  rcases step_cases h with ⟨hreset, rfl⟩ | ⟨-, hdue, rfl⟩ | ⟨-, -, i, s', u, hfetch, hexec, rfl⟩
  · exact .inl ⟨.inl hreset, henter _ hp⟩
  · exact .inl ⟨.inr hdue, henter _ hp⟩
  · refine .inr ⟨i, s', hfetch, by_contra fun hn => hp ?_⟩
    have hs' : Agrees s s' p := ChangesOnly.fetch (ps := [.absentReads]) hfetch (.head _) p (by simpa using hdraw)
    have hu : Agrees s' u p := exec_changesOnly hexec p hn
    have hnext : Agrees u u.nextPins p := ChangesOnly.refl.nextPins (ps := [.pins]) (.head _) p (by simpa using hpins)
    exact agrees_trans (agrees_trans hs' hu) hnext

/-! ### Who writes PC1, DC1 and ICB -/

theorem not_mem_stepParts (r : ScratchOperand) {p : Part} (hp : p ≠ .isarLower) : p ∉ stepParts r := by
  cases r <;> simp [stepParts, hp]

theorem not_mem_drawParts (s : State) {p : Part} (hp : p ≠ .absentReads) : p ∉ drawParts s := by
  unfold drawParts
  split <;> simp [hp]

theorem pc1_mem_writes {s : State} {i : Instr} (h : .pc1 ∈ writes s i) : i = .pk ∨ i = .lrPK ∨ ∃ x, i = .pi x := by
  cases i with
  | pk | lrPK | pi => simp
  | ci => cases hci : s.platform.ciWritesA <;> simp [writes, hci] at h
  | _ => simp [writes, not_mem_stepParts, not_mem_drawParts] at h

theorem dc1_mem_writes {s : State} {i : Instr} (h : .dc1 ∈ writes s i) : i = .xdc := by
  cases i with
  | xdc => simp
  | ci => cases hci : s.platform.ciWritesA <;> simp [writes, hci] at h
  | _ => simp [writes, not_mem_stepParts, not_mem_drawParts] at h

theorem icb_mem_writes {s : State} {i : Instr} (h : .icb ∈ writes s i) : i = .di ∨ i = .ei ∨ i = .lrWJ := by
  cases i with
  | di | ei | lrWJ => simp
  | ci => cases hci : s.platform.ciWritesA <;> simp [writes, hci] at h
  | _ => simp [writes, not_mem_stepParts, not_mem_drawParts] at h

/-- Settles O23: both registers are parts, and their writers are read off the lists. -/
theorem pc1AndDc1HaveOnlyTheWritersNamed : Obligations.Pc1AndDc1HaveOnlyTheWritersNamed := by
  intro s t h
  constructor
  · intro hpc1
    rcases step_changes (p := .pc1) h hpc1 (by simp) (by simp) with ⟨hreset | hdue, -⟩ | ⟨i, s', hfetch, hmem⟩
    · exact .inl hreset
    · exact .inr (.inl hdue)
    · exact .inr (.inr ⟨i, s', hfetch, pc1_mem_writes hmem⟩)
  · intro hdc1
    rcases step_changes (p := .dc1) h hdc1 (by simp) (by simp) with ⟨-, hmem⟩ | ⟨i, s', hfetch, hmem⟩
    · simp at hmem
    · exact ⟨s', dc1_mem_writes hmem ▸ hfetch⟩

theorem State.icb_enter (s : State) (target : Word) : (s.enter target).icb = false :=
  State.icb_setIcb _ false

theorem State.icb_nextPins (s : State) : s.nextPins.icb = s.icb := by
  rw [s.nextPins_eq]
  rfl

/-- LR W,J takes ICB from bit 4 of J (R128). -/
theorem exec_lrWJ_icb {s t : State} (h : exec .lrWJ s = .next t) : t.icb = true ↔ (s.reg 9).toNat / 16 % 2 = 1 := by
  obtain rfl := Host.Outcome.next.inj h
  rw [State.advanceHeld_icb, State.icb, State.setW_w, getLsbD_iff_toNat, BitVec.extractLsb'_toNat, regJ]
  omega

theorem exec_icb_rises {i : Instr} {s t : State} (h : exec i s = .next t) (hs : s.icb = false) (ht : t.icb = true) :
    i = .ei ∨ (i = .lrWJ ∧ (s.reg 9).toNat / 16 % 2 = 1) := by
  have hmem : .icb ∈ writes s i := by
    by_contra hn
    have hkept : t.icb = s.icb := exec_changesOnly h .icb hn
    simp [hkept, hs] at ht
  rcases icb_mem_writes hmem with rfl | rfl | rfl
  · obtain rfl := Host.Outcome.next.inj h
    simp at ht
  · exact .inl rfl
  · exact .inr ⟨rfl, (exec_lrWJ_icb h).mp ht⟩

/-- Settles O22: INTRPT and RESET clear ICB, and of its three writers DI does too. -/
theorem icbIsSetOnlyByEiOrLrWJ : Obligations.IcbIsSetOnlyByEiOrLrWJ := by
  intro s t h hs ht
  rcases step_cases h with ⟨-, rfl⟩ | ⟨-, -, rfl⟩ | ⟨-, -, i, s', u, hfetch, hexec, rfl⟩
  · simp [State.icb_nextPins, State.takeReset, State.icb_enter] at ht
  · simp [State.icb_nextPins, State.takeInterrupt, State.icb_enter] at ht
  · have hframe : ChangesOnly [.absentReads] s s' := .fetch hfetch (.head _)
    have hicb : s'.icb = s.icb := hframe .icb (by simp)
    have hreg : s'.reg 9 = s.reg 9 := hframe (.reg 9) (by simp)
    rw [State.icb_nextPins] at ht
    exact ⟨i, s', hfetch, hreg ▸ exec_icb_rises hexec (hicb.trans hs) ht⟩

end Sys2Proof.Machine
end

section
/-! PROOFS. The rules of 20_memory.md: reads and writes by the map, the canonical form of memory, the stores of a step and the
events of the I/O space. -/

namespace Sys2Proof.Machine

open Sys2Proof.Spec

/-! ### Reads and writes by kind (R51) -/

section
variable {s : State} {x : Word}

theorem State.memRead_of_present (h : s.kindAt x ≠ .absent) : s.memRead x = (s.byteAt x, s) :=
  ((s.memRead_cases x).resolve_right fun hr => h hr.1).2

theorem State.memRead_of_absent (h : s.kindAt x = .absent) :
    s.memRead x = (Config.absentByte s.absentReads x, { s with absentReads := s.absentReads + 1 }) :=
  ((s.memRead_cases x).resolve_left fun hl => hl.1 h).2

theorem State.memWrite_of_ram (h : s.kindAt x = .ram) (v : Byte) : s.memWrite x v = s.poke x v :=
  ((s.memWrite_cases x v).resolve_right fun hr => hr.1 h).2

theorem State.memWrite_of_not_ram (h : s.kindAt x ≠ .ram) (v : Byte) : s.memWrite x v = s :=
  ((s.memWrite_cases x v).resolve_left fun hl => h hl.1).2

theorem State.memRead_poke_self_of_ram (h : s.kindAt x = .ram) (v : Byte) :
    (s.poke x v).memRead x = (v, s.poke x v) := by
  rw [State.memRead_of_present (by simp [h]), State.byteAt_poke_self]

theorem State.byteAt_of_unlisted (h : s.mem.find x.toNat = none) : s.byteAt x = Config.launchByte x := by
  rw [State.byteAt, h, Option.getD_none]

end

/-- Settles O25, kind by kind. -/
theorem memoryReadsAndWritesFollowTheMap : Obligations.MemoryReadsAndWritesFollowTheMap := by
  intro s x v
  refine ⟨State.byteAt_of_unlisted, fun hram => ?_, fun hrom => ?_, fun habsent => ?_⟩
  · rw [State.memWrite_of_ram hram]
    exact ⟨State.memRead_poke_self_of_ram hram v, State.memRead_of_present (by simp [hram]), rfl,
      fun y hy => s.byteAt_poke_other v hy⟩
  · exact ⟨State.memWrite_of_not_ram (by simp [hrom]) v, State.memRead_of_present (by simp [hrom])⟩
  · exact ⟨State.memWrite_of_not_ram (by simp [habsent]) v, State.memRead_of_absent habsent⟩

/-! ### ST -/

/-- ST where DC0 is in ram (R113). -/
theorem exec_st_of_ram {s : State} (h : s.kindAt s.dc0 = .ram) :
    exec .st s = .next (((s.poke s.dc0 s.a).setDc0 (s.dc0 + 1)).advance 1) := by
  rw [← State.memWrite_of_ram h s.a]
  rfl

theorem exec_st_byteAt_dc0 {s t : State} (hexec : exec .st s = .next t) (hram : s.kindAt s.dc0 = .ram) :
    t.byteAt s.dc0 = s.a := by
  obtain rfl := Host.Outcome.next.inj ((exec_st_of_ram hram).symm.trans hexec)
  exact s.byteAt_poke_self s.dc0 s.a

/-- Settles O26: ST has put A at DC0, which is where PC0 then points. -/
theorem storeIsSeenByTheNextFetch : Obligations.StoreIsSeenByTheNextFetch := by
  intro s hdc0 hram
  have hexec := exec_st_of_ram hram
  refine ⟨_, hexec, hdc0.symm, ?_⟩
  rw [State.memRead_of_present]
  · exact hdc0 ▸ exec_st_byteAt_dc0 hexec hram
  · change s.kindAt (s.pc0 + 1) ≠ .absent
    rw [← hdc0, hram]
    decide

/-! ### What a step does, with INTRPT and RESET taken together -/

@[simp] theorem State.nextPins_mem (s : State) : s.nextPins.mem = s.mem := by rw [s.nextPins_eq]

@[simp] theorem State.nextPins_a (s : State) : s.nextPins.a = s.a := by rw [s.nextPins_eq]

@[simp] theorem State.nextPins_portEvents (s : State) : s.nextPins.portEvents = s.portEvents := by
  rw [s.nextPins_eq]

@[simp] theorem State.nextPins_byteAt (s : State) (x : Word) : s.nextPins.byteAt x = s.byteAt x := by
  rw [State.byteAt, State.byteAt, State.nextPins_mem]

/-- A step enters a sequence of its own, or runs the instruction fetched, in the state it was fetched in but for the count of
draws. -/
theorem step_enters_or_runs {s t : State} (h : step s = .next t) :
    (∃ target, t = (s.enter target).nextPins) ∨
      (s.pins.extrst = false ∧ s.interruptDue = false ∧ ∃ i n u, fetch s = .ok (i, { s with absentReads := n }) ∧
        exec i { s with absentReads := n } = .next u ∧ t = u.nextPins) := by
  rcases step_cases h with ⟨-, ht⟩ | ⟨-, -, ht⟩ | ⟨hreset, hdue, i, s', u, hfetch, hexec, ht⟩
  · exact .inl ⟨_, ht⟩
  · exact .inl ⟨_, ht⟩
  · obtain ⟨n, rfl⟩ : ∃ n, s' = { s with absentReads := n } := ⟨_, fetch_state hfetch⟩
    exact .inr ⟨hreset, hdue, i, n, u, hfetch, hexec, ht⟩

/-! ### The canonical form of memory -/

theorem State.memOperand_mem (s : State) : s.memOperand.2.mem = s.mem := by rw [s.memOperand_snd]

theorem State.scratchRef_mem (s : State) (r : ScratchOperand) : (s.scratchRef r).2.mem = s.mem := by
  rw [s.scratchRef_snd r]

/-- Memory as data, not only as it reads: no instruction but ST touches the list. -/
theorem exec_mem_of_ne_st {i : Instr} {s t : State} (h : exec i s = .next t) (hst : i ≠ .st) : t.mem = s.mem := by
  cases i with
  | st => exact absurd rfl hst
  | inc => exact exec_inc_next h ▸ rfl
  | lis n => exact exec_lis_next h ▸ rfl
  | lm | am | amd | nm | om | xm | cm => exact Host.Outcome.next.inj h ▸ s.memOperand_mem
  | ds r | lrAR r | lrRA r | asR r | asdR r | nsR r | xsR r => exact Host.Outcome.next.inj h ▸ s.scratchRef_mem r
  | _ => exact Host.Outcome.next.inj h ▸ rfl

theorem exec_preserves_inv {i : Instr} {s t : State} (h : exec i s = .next t) (hs : s.Inv) : t.Inv := by
  by_cases hst : i = .st
  · subst hst
    exact Host.Outcome.next.inj h ▸ State.memWrite_wf s.dc0 s.a hs
  · rwa [State.Inv, exec_mem_of_ne_st h hst]

/-- Settles O17: INTRPT, RESET and the pins leave memory alone, and every instruction keeps its form. -/
theorem stepKeepsMemoryCanonical : Obligations.StepKeepsMemoryCanonical := by
  intro s t hs h
  rcases step_enters_or_runs h with ⟨target, rfl⟩ | ⟨-, -, i, n, u, -, hexec, rfl⟩
  · rwa [State.Inv, State.nextPins_mem, State.enter_mem]
  · rw [State.Inv, State.nextPins_mem]
    exact exec_preserves_inv hexec hs

/-- Settles O18: reset memory lists nothing. -/
theorem resetMemoryIsCanonical : Obligations.ResetMemoryIsCanonical := Memory.wf_nil

/-! ### Who writes memory -/

theorem not_mem_writes_ci (s : State) (aa : Byte) {p : Part} (ha : p ≠ .a) (hflags : p ≠ .flags) :
    p ∉ writes s (.ci aa) := by
  cases hci : s.platform.ciWritesA <;> simp [writes, hci, ha, hflags]

theorem byte_mem_writes {s : State} {i : Instr} {x : Word} (h : .byte x ∈ writes s i) :
    i = .st ∧ x = s.dc0 ∧ s.kindAt s.dc0 = .ram := by
  cases i with
  | st => by_cases hram : s.kindAt s.dc0 = .ram <;> simp_all [writes]
  | ci aa => exact absurd h (not_mem_writes_ci s aa nofun nofun)
  | _ => simp [writes, not_mem_stepParts, not_mem_drawParts] at h

theorem exec_byteAt_changes {i : Instr} {s t : State} {x : Word} (h : exec i s = .next t)
    (hx : t.byteAt x ≠ s.byteAt x) : i = .st ∧ x = s.dc0 ∧ s.kindAt s.dc0 = .ram :=
  byte_mem_writes (by_contra fun hn => hx (exec_changesOnly h (.byte x) hn))

/-- Settles O21: of what a step can be only an instruction writes memory, and of the instructions only ST. -/
theorem memoryChangesOnlyByAStoreToRam : Obligations.MemoryChangesOnlyByAStoreToRam := by
  intro s t x h hx
  rcases step_enters_or_runs h with ⟨target, rfl⟩ | ⟨hreset, hdue, i, n, u, hfetch, hexec, rfl⟩
  · simp at hx
  · rw [State.nextPins_byteAt] at hx ⊢
    obtain ⟨rfl, rfl, hram⟩ := exec_byteAt_changes hexec hx
    exact ⟨hreset, hdue, ⟨_, hfetch⟩, rfl, hram, exec_st_byteAt_dc0 hexec hram⟩

/-! ### The events of the I/O space (R44, R47) -/

/-- From `s` to `t` the events are the same, or a read has been added that A holds the answer of, or a write of A. -/
def AddsAtMostOneEvent (s t : State) : Prop :=
  t.portEvents = s.portEvents ∨
    (∃ p, t.portEvents = s.portEvents ++ [.input p (portValue p s)] ∧ t.a = portValue p s) ∨
    ∃ p, t.portEvents = s.portEvents ++ [.output p s.a]

theorem State.inputToA_addsRead (s : State) (p : Byte) :
    (s.inputToA p).portEvents = s.portEvents ++ [.input p (portValue p s)] ∧ (s.inputToA p).a = portValue p s := by
  rw [portValue, ← s.portAnswer_eq p]
  exact ⟨rfl, rfl⟩

theorem exec_addsAtMostOneEvent {i : Instr} {s t : State} (h : exec i s = .next t) : AddsAtMostOneEvent s t := by
  cases i with
  | inPort | ins01 | insN => exact Host.Outcome.next.inj h ▸ .inr (.inl ⟨_, s.inputToA_addsRead _⟩)
  | outPort | outs01 | outsN => exact Host.Outcome.next.inj h ▸ .inr (.inr ⟨_, rfl⟩)
  | ci aa => exact .inl (exec_changesOnly h .portEvents (not_mem_writes_ci s aa nofun nofun))
  | _ => exact .inl (exec_changesOnly h .portEvents (by simp [writes, not_mem_stepParts, not_mem_drawParts]))

theorem step_addsAtMostOneEvent {s t : State} (h : step s = .next t) : AddsAtMostOneEvent s t := by
  rcases step_enters_or_runs h with ⟨target, rfl⟩ | ⟨-, -, i, n, u, -, hexec, rfl⟩
  · exact .inl (State.nextPins_portEvents _)
  · rw [AddsAtMostOneEvent, State.nextPins_portEvents, State.nextPins_a]
    have hrun := exec_addsAtMostOneEvent hexec
    exact hrun

/-- The output history is the writes among the events, so it grows with them. -/
theorem AddsAtMostOneEvent.outputs {s t : State} (h : AddsAtMostOneEvent s t) :
    t.outputs = s.outputs ∨ ∃ p, t.outputs = s.outputs ++ [(p, s.a)] := by
  rcases h with hsame | ⟨p, hread, -⟩ | ⟨p, hwrite⟩
  · exact .inl (by rw [State.outputs, State.outputs, hsame])
  · exact .inl (by simp [State.outputs, hread, PortEvent.written?])
  · exact .inr ⟨p, by simp [State.outputs, hwrite, PortEvent.written?]⟩

theorem platform_not_mem_writes (s : State) (i : Instr) : .platform ∉ writes s i := by
  cases i with
  | st => by_cases hram : s.kindAt s.dc0 = .ram <;> simp [writes, hram]
  | ci aa => exact not_mem_writes_ci s aa nofun nofun
  | _ => simp [writes, not_mem_stepParts, not_mem_drawParts]

theorem step_platform {s t : State} (h : step s = .next t) : t.platform = s.platform := by
  by_contra hne
  rcases step_changes (p := .platform) h hne (by simp) (by simp) with ⟨-, hmem⟩ | ⟨i, s', -, hmem⟩
  · simp at hmem
  · exact platform_not_mem_writes s' i hmem

/-- Settles O24: the port instructions add one event each, and no list of written parts names the parameters. -/
theorem outputHistoryGrowsAndPlatformIsFixed : Obligations.OutputHistoryGrowsAndPlatformIsFixed := fun _ _ h =>
  ⟨step_addsAtMostOneEvent h, (step_addsAtMostOneEvent h).outputs, step_platform h⟩

end Sys2Proof.Machine
end

section
/-! PROOFS. The rules of 30_encoding.md: the opcode table, decode and encode as inverses, and the step that runs what is decoded. -/

namespace Sys2Proof

open Sys2Proof.Spec
open Sys2Proof.Machine (joinBytes hiByte loByte)

/-! ### The opcode table (R65, R66, R69) -/

/-- Settles O3, byte by byte. -/
theorem everyOpcodeByteSelectsAtMostOneRow : Obligations.EveryOpcodeByteSelectsAtMostOneRow := ⟨rfl, by decide⟩

/-- Settles O4, byte by byte. -/
theorem lengthIsDecidedByTheOpcodeByte : Obligations.LengthIsDecidedByTheOpcodeByte := by
  unfold Obligations.LengthIsDecidedByTheOpcodeByte
  decide

/-- Settles O5, word by word. -/
theorem sampleWordsDecode : Obligations.SampleWordsDecode :=
  ⟨rfl, rfl, rfl, rfl, rfl, rfl, rfl, rfl, rfl, rfl, rfl, rfl⟩

theorem rowOf_eq_none_iff {b : Byte} : rowOf b = none ↔ b ∈ undefinedOpcodes := by
  have hcount := everyOpcodeByteSelectsAtMostOneRow.2 b
  rw [rowOf, ← List.head?_filter, List.head?_eq_none_iff, ← List.length_eq_zero_iff, hcount]
  simp

/-- A row that selects a byte is the row of the byte: no second row competes for it. -/
theorem rowOf_eq_of_getElem? {k : Nat} {b : Byte} {row : OpRow} (hget : opRows[k]? = some row)
    (hsel : row.selects b = true) : rowOf b = some row := by
  have hmem : row ∈ opRows.filter (·.selects b) := List.mem_filter.mpr ⟨List.mem_of_getElem? hget, hsel⟩
  have hlen : (opRows.filter (·.selects b)).length ≤ 1 := by
    rw [everyOpcodeByteSelectsAtMostOneRow.2 b]
    split <;> decide
  obtain ⟨only, honly⟩ := List.length_eq_one_iff.mp (Nat.le_antisymm hlen (List.length_pos_of_mem hmem))
  have hrow_only : row = only := by simpa [honly] using hmem
  rw [rowOf, ← List.head?_filter, honly, hrow_only, List.head?_cons]

/-! ### Operand bytes and fields (R27, R61) -/

theorem joinBytes_hiByte_loByte (x : Word) : joinBytes (hiByte x) (loByte x) = x :=
  BitVec.extractLsb'_append_extractLsb'

theorem hiByte_joinBytes (hi lo : Byte) : hiByte (joinBytes hi lo) = hi := BitVec.extractLsb'_append_eq_left

theorem loByte_joinBytes (hi lo : Byte) : loByte (joinBytes hi lo) = lo := BitVec.extractLsb'_append_eq_right

theorem lowNibble_groupByte (g f : BitVec 4) : lowNibble (groupByte g f) = f := BitVec.extractLsb'_append_eq_right

theorem lowThree_append (g : BitVec 5) (e : BitVec 3) : lowThree (g ++ e : BitVec (5 + 3)) = e :=
  BitVec.extractLsb'_append_eq_right

theorem scratchCode_ne_fifteen (r : ScratchOperand) : scratchCode r ≠ 15 := by
  cases r with
  | direct n => revert n; decide
  | _ => decide

theorem scratchField_groupByte (g : BitVec 4) (r : ScratchOperand) :
    scratchField (groupByte g (scratchCode r)) = r := by
  rw [scratchField, lowNibble_groupByte]
  cases r with
  | direct n => revert n; decide
  | _ => rfl

/-- The field 15 is the only one that codes no scratchpad operand. -/
theorem exists_scratchCode_eq {f : BitVec 4} (h : f ≠ 15) : ∃ r, scratchCode r = f :=
  ⟨scratchField (groupByte 0 f), by revert f; decide⟩

/-! ### What a row selects -/

theorem OpRow.selects_iff {row : OpRow} {b : Byte} :
    row.selects b = true ↔ b &&& row.mask = row.pat ∧ b ∉ row.excluded := by
  simp [OpRow.selects]

/-- Under a mask of upper bits a pattern fixes the upper bits and leaves the lower ones free. -/
theorem and_mask_eq_iff {m n : Nat} {g : BitVec m} {b : BitVec (m + n)} :
    b &&& (BitVec.allOnes m ++ 0#n) = g ++ 0#n ↔ ∃ f : BitVec n, b = g ++ f := by
  constructor
  · intro h
    have hb : b.extractLsb' n m ++ b.extractLsb' 0 n = b := BitVec.extractLsb'_append_extractLsb'
    rw [← hb, BitVec.and_append, BitVec.and_allOnes, BitVec.and_zero] at h
    have hg := congrArg (BitVec.extractLsb' n m) h
    rw [BitVec.extractLsb'_append_eq_left, BitVec.extractLsb'_append_eq_left] at hg
    exact ⟨b.extractLsb' 0 n, by rw [← hg, hb]⟩
  · rintro ⟨f, rfl⟩
    rw [BitVec.and_append, BitVec.and_allOnes, BitVec.and_zero]

theorem selects_exact_iff {pat b : Byte} {len : Nat} {build : Byte → Byte → Byte → Instr} :
    OpRow.selects ⟨pat, 0xFF, [], len, build⟩ b = true ↔ b = pat := by
  have hmask : b &&& 255#8 = b := BitVec.and_allOnes
  simp [OpRow.selects_iff, hmask]

/-- A 4-bit group, of which some bytes may be left out. -/
theorem selects_group_iff {g : BitVec 4} {b : Byte} {excluded : List Byte} {len : Nat}
    {build : Byte → Byte → Byte → Instr} :
    OpRow.selects ⟨groupByte g 0, 0xF0, excluded, len, build⟩ b = true ↔
      (∃ f, b = groupByte g f) ∧ b ∉ excluded :=
  OpRow.selects_iff.trans (and_congr_left' (and_mask_eq_iff (m := 4) (n := 4)))

/-- A 5-bit pattern and the 3-bit operand of format OP_E (R61). -/
theorem selects_five_iff {g : BitVec 5} {b : Byte} {len : Nat} {build : Byte → Byte → Byte → Instr} :
    OpRow.selects ⟨(g ++ 0#3 : BitVec (5 + 3)), 0xF8, [], len, build⟩ b = true ↔
      ∃ e : BitVec 3, b = (g ++ e : BitVec (5 + 3)) :=
  OpRow.selects_iff.trans ((and_iff_left List.not_mem_nil).trans (and_mask_eq_iff (m := 5) (n := 3)))

/-- A 7-bit pattern and the port 0 or 1 in bit 0 (R197, R199). -/
theorem selects_seven_iff {g : BitVec 7} {b : Byte} {len : Nat} {build : Byte → Byte → Byte → Instr} :
    OpRow.selects ⟨(g ++ 0#1 : BitVec (7 + 1)), 0xFE, [], len, build⟩ b = true ↔
      ∃ p : BitVec 1, b = (g ++ p : BitVec (7 + 1)) :=
  OpRow.selects_iff.trans ((and_iff_left List.not_mem_nil).trans (and_mask_eq_iff (m := 7) (n := 1)))

/-- Format OP_R (R61): the bytes of the group whose field codes a scratchpad operand. -/
theorem selects_rowR_iff {g : BitVec 4} {b : Byte} {i : ScratchOperand → Instr} :
    (rowR (groupByte g 0) i).selects b = true ↔ ∃ r, b = groupByte g (scratchCode r) := by
  have hexcluded : groupByte g 0 ||| 0x0F = groupByte g 15 := by revert g; decide
  rw [rowR, selects_group_iff, hexcluded, List.mem_singleton]
  constructor
  · rintro ⟨⟨f, rfl⟩, hne⟩
    obtain ⟨r, rfl⟩ := exists_scratchCode_eq (f := f) fun hf => hne (hf ▸ rfl)
    exact ⟨r, rfl⟩
  · rintro ⟨r, rfl⟩
    refine ⟨⟨_, rfl⟩, fun heq => scratchCode_ne_fifteen r ?_⟩
    rw [← lowNibble_groupByte g (scratchCode r), heq, lowNibble_groupByte]

/-! ### Every row spells the encoding of what it builds (R64) -/

/-- Where the row selects byte 0, the bytes it takes are the encoding of the well-formed instruction it builds. -/
def OpRow.SpellsEncoding (row : OpRow) : Prop :=
  ∀ b b1 b2, row.selects b = true →
    (row.build b b1 b2).wellFormed = true ∧ encode (row.build b b1 b2) = [b, b1, b2].take row.length

theorem rowOp_spellsEncoding {pat : Byte} {i : Instr} (hwf : i.wellFormed = true := by rfl)
    (henc : encode i = [pat] := by rfl) : (rowOp pat i).SpellsEncoding := by
  intro b b1 b2 hsel
  rw [selects_exact_iff.mp hsel]
  exact ⟨hwf, henc⟩

theorem rowI8_spellsEncoding {pat : Byte} {i : Byte → Instr} (hwf : ∀ aa, (i aa).wellFormed = true := by intro; rfl)
    (henc : ∀ aa, encode (i aa) = [pat, aa] := by intro; rfl) : (rowI8 pat i).SpellsEncoding := by
  intro b b1 b2 hsel
  rw [selects_exact_iff.mp hsel]
  exact ⟨hwf b1, henc b1⟩

theorem rowI16_spellsEncoding {pat : Byte} {i : Word → Instr} (hwf : ∀ x, (i x).wellFormed = true := by intro; rfl)
    (henc : ∀ x, encode (i x) = [pat, hiByte x, loByte x] := by intro; rfl) : (rowI16 pat i).SpellsEncoding := by
  intro b b1 b2 hsel
  rw [selects_exact_iff.mp hsel]
  refine ⟨hwf _, (henc _).trans ?_⟩
  rw [hiByte_joinBytes, loByte_joinBytes]
  rfl

theorem rowR_spellsEncoding (g : BitVec 4) {i : ScratchOperand → Instr}
    (hwf : ∀ r, (i r).wellFormed = true := by intro; rfl)
    (henc : ∀ r, encode (i r) = [groupByte g (scratchCode r)] := by intro; rfl) :
    (rowR (groupByte g 0) i).SpellsEncoding := by
  intro b b1 b2 hsel
  obtain ⟨r, rfl⟩ := selects_rowR_iff.mp hsel
  simp only [rowR, scratchField_groupByte]
  exact ⟨hwf r, henc r⟩

/-- Format OP_E (R61), and BT, which has a displacement byte after it. -/
theorem fiveBit_spellsEncoding (g : BitVec 5) {len : Nat} {i : BitVec 3 → Byte → Instr}
    (hwf : ∀ e b1, (i e b1).wellFormed = true := by intros; rfl)
    (henc : ∀ e b1 b2, encode (i e b1) = [(g ++ e : BitVec (5 + 3)), b1, b2].take len := by intros; rfl) :
    OpRow.SpellsEncoding ⟨(g ++ 0#3 : BitVec (5 + 3)), 0xF8, [], len, fun b b1 _ => i (lowThree b) b1⟩ := by
  intro b b1 b2 hsel
  obtain ⟨e, rfl⟩ := selects_five_iff.mp hsel
  simp only [lowThree_append]
  exact ⟨hwf e b1, henc e b1 b2⟩

/-- A field of four bits: LIS, BR t, and the short port instructions, which leave some of its values out. -/
theorem group_spellsEncoding (g : BitVec 4) {excluded : List Byte} {len : Nat} {i : BitVec 4 → Byte → Instr}
    (hwf : ∀ f b1, groupByte g f ∉ excluded → (i f b1).wellFormed = true := by intros; rfl)
    (henc : ∀ f b1 b2, encode (i f b1) = [groupByte g f, b1, b2].take len := by intros; rfl) :
    OpRow.SpellsEncoding ⟨groupByte g 0, 0xF0, excluded, len, fun b b1 _ => i (lowNibble b) b1⟩ := by
  intro b b1 b2 hsel
  obtain ⟨⟨f, rfl⟩, hnot⟩ := selects_group_iff.mp hsel
  simp only [lowNibble_groupByte]
  exact ⟨hwf f b1 hnot, henc f b1 b2⟩

/-- INS 0|1 and OUTS 0|1. -/
theorem sevenBit_spellsEncoding (g : BitVec 7) {i : BitVec 1 → Instr}
    (hwf : ∀ p, (i p).wellFormed = true := by intro; rfl)
    (henc : ∀ p, encode (i p) = [(g ++ p : BitVec (7 + 1))] := by intro; rfl) :
    OpRow.SpellsEncoding ⟨(g ++ 0#1 : BitVec (7 + 1)), 0xFE, [], 1, fun b _ _ => i (b.extractLsb' 0 1)⟩ := by
  intro b b1 b2 hsel
  obtain ⟨p, rfl⟩ := selects_seven_iff.mp hsel
  simp only [BitVec.extractLsb'_append_eq_right]
  exact ⟨hwf p, henc p⟩

theorem rowsLow_spellEncoding : ∀ row ∈ rowsLow, row.SpellsEncoding := by
  intro row hrow
  fin_cases hrow <;> exact rowOp_spellsEncoding

theorem rowsImmediate_spellEncoding : ∀ row ∈ rowsImmediate, row.SpellsEncoding := by
  simp only [rowsImmediate, List.forall_mem_cons]
  exact ⟨rowI8_spellsEncoding, rowI8_spellsEncoding, rowI8_spellsEncoding, rowI8_spellsEncoding,
    rowI8_spellsEncoding, rowI8_spellsEncoding, rowI8_spellsEncoding, rowI8_spellsEncoding, rowI16_spellsEncoding,
    rowI16_spellsEncoding, rowI16_spellsEncoding, rowOp_spellsEncoding, rowOp_spellsEncoding, nofun⟩

theorem rowsMiddle_spellEncoding : ∀ row ∈ rowsMiddle, row.SpellsEncoding := by
  simp only [rowsMiddle, List.forall_mem_cons]
  exact ⟨rowR_spellsEncoding 0x3, rowR_spellsEncoding 0x4, rowR_spellsEncoding 0x5,
    fiveBit_spellsEncoding 0b01100 (i := fun e _ => .lisu e), fiveBit_spellsEncoding 0b01101 (i := fun e _ => .lisl e),
    group_spellsEncoding 0x7 (i := fun n _ => .lis n), nofun⟩

theorem rowsMemoryBranch_spellEncoding : ∀ row ∈ rowsMemoryBranch, row.SpellsEncoding := by
  simp only [rowsMemoryBranch, List.forall_mem_cons]
  exact ⟨fiveBit_spellsEncoding 0b10000, rowOp_spellsEncoding, rowOp_spellsEncoding, rowOp_spellsEncoding,
    rowOp_spellsEncoding, rowOp_spellsEncoding, rowOp_spellsEncoding, rowOp_spellsEncoding, rowI8_spellsEncoding,
    group_spellsEncoding 0x9, nofun⟩

/-- INS n and OUTS n leave out the fields 0 to 3 (R201). -/
theorem not_mem_excluded_iff {g n : BitVec 4} :
    groupByte g n ∉ [groupByte g 0, groupByte g 1, groupByte g 2, groupByte g 3] ↔ shortPortOk n = true := by
  revert g n
  decide

theorem rowsHigh_spellEncoding : ∀ row ∈ rowsHigh, row.SpellsEncoding := by
  simp only [rowsHigh, List.forall_mem_cons]
  exact ⟨sevenBit_spellsEncoding 0b1010000, group_spellsEncoding 0xA (i := fun n _ => .insN n) fun _ _ => not_mem_excluded_iff.mp,
    sevenBit_spellsEncoding 0b1011000, group_spellsEncoding 0xB (i := fun n _ => .outsN n) fun _ _ => not_mem_excluded_iff.mp,
    rowR_spellsEncoding 0xC, rowR_spellsEncoding 0xD, rowR_spellsEncoding 0xE, rowR_spellsEncoding 0xF, nofun⟩

theorem opRows_spellEncoding : ∀ row ∈ opRows, row.SpellsEncoding := by
  simp only [opRows, List.forall_mem_append]
  exact ⟨⟨⟨⟨rowsLow_spellEncoding, rowsImmediate_spellEncoding⟩, rowsMiddle_spellEncoding⟩,
    rowsMemoryBranch_spellEncoding⟩, rowsHigh_spellEncoding⟩

/-! ### Decode after encode, and encode after decode -/

/-- What the decoder answers when it answers: the converse of `decode_row_one`, `decode_row_two` and `decode_row_three`. -/
theorem decode_cons_eq_ok {b : Byte} {bs rest : List Byte} {i : Instr} (h : decode (b :: bs) = .ok (i, rest)) :
    ∃ b1 b2 row, rowOf b = some row ∧ b :: bs = [b, b1, b2].take row.length ++ rest ∧ i = row.build b b1 b2 := by
  simp only [decode] at h
  split at h
  · cases h
  next row hrow =>
    split at h
    next hlen => cases h; exact ⟨0, 0, row, hrow, by simp [hlen], rfl⟩
    next b1 _ hlen => cases h; exact ⟨b1, 0, row, hrow, by simp [hlen], rfl⟩
    next b1 b2 _ hlen => cases h; exact ⟨b1, b2, row, hrow, by simp [hlen], rfl⟩
    · cases h

theorem wellFormed_and_eq_encode_of_decode {bytes rest : List Byte} {i : Instr} (h : decode bytes = .ok (i, rest)) :
    i.wellFormed = true ∧ bytes = encode i ++ rest := by
  cases bytes with
  | nil => cases h
  | cons b bs =>
    obtain ⟨b1, b2, row, hrow, hbytes, rfl⟩ := decode_cons_eq_ok h
    obtain ⟨hmem, hsel⟩ := rowOf_mem hrow
    obtain ⟨hwf, henc⟩ := opRows_spellEncoding row hmem b b1 b2 hsel
    exact ⟨hwf, by rw [henc, hbytes]⟩

/-- Settles O2: every row spells the encoding of what it builds. -/
theorem decodedBytesAreTheEncoding : Obligations.DecodedBytesAreTheEncoding :=
  fun _ _ _ h => wellFormed_and_eq_encode_of_decode h

section
/- `k` is the number of the row in the opcode table, from 0. -/
variable (rest : List Byte) {k : Nat}

theorem decode_rowI16 {pat : Byte} {i : Word → Instr} (hrow : rowOf pat = some (rowI16 pat i)) (x : Word) :
    decode (pat :: hiByte x :: loByte x :: rest) = .ok (i x, rest) := by
  simp only [decode_row_three _ _ rest hrow rfl, rowI16, joinBytes_hiByte_loByte]

theorem decode_rowR (g : BitVec 4) {i : ScratchOperand → Instr} (hget : opRows[k]? = some (rowR (groupByte g 0) i))
    (r : ScratchOperand) : decode (groupByte g (scratchCode r) :: rest) = .ok (i r, rest) := by
  have hrow := rowOf_eq_of_getElem? hget (selects_rowR_iff.mpr ⟨r, rfl⟩)
  simp only [decode_row_one rest hrow rfl, rowR, scratchField_groupByte]

theorem decode_rowE (g : BitVec 5) {i : BitVec 3 → Instr} (hget : opRows[k]? = some (rowE (g ++ 0#3 : BitVec (5 + 3)) i))
    (e : BitVec 3) : decode ((g ++ e : BitVec (5 + 3)) :: rest) = .ok (i e, rest) := by
  have hrow := rowOf_eq_of_getElem? hget (selects_five_iff.mpr ⟨e, rfl⟩)
  simp only [decode_row_one rest hrow rfl, rowE, lowThree_append]

theorem decode_group (g : BitVec 4) {excluded : List Byte} {i : BitVec 4 → Instr}
    (hget : opRows[k]? = some ⟨groupByte g 0, 0xF0, excluded, 1, fun b _ _ => i (lowNibble b)⟩) {n : BitVec 4}
    (hnot : groupByte g n ∉ excluded) : decode (groupByte g n :: rest) = .ok (i n, rest) := by
  have hrow := rowOf_eq_of_getElem? hget (selects_group_iff.mpr ⟨⟨n, rfl⟩, hnot⟩)
  simp only [decode_row_one rest hrow rfl, lowNibble_groupByte]

theorem decode_seven (g : BitVec 7) {i : BitVec 1 → Instr}
    (hget : opRows[k]? = some ⟨(g ++ 0#1 : BitVec (7 + 1)), 0xFE, [], 1, fun b _ _ => i (b.extractLsb' 0 1)⟩) (p : BitVec 1) :
    decode ((g ++ p : BitVec (7 + 1)) :: rest) = .ok (i p, rest) := by
  have hrow := rowOf_eq_of_getElem? hget (selects_seven_iff.mpr ⟨p, rfl⟩)
  simp only [decode_row_one rest hrow rfl, BitVec.extractLsb'_append_eq_right]

theorem decode_bt (e : BitVec 3) (ii : Byte) :
    decode ((0b10000#5 ++ e : BitVec (5 + 3)) :: ii :: rest) = .ok (.bt e ii, rest) := by
  have hrow := rowOf_eq_of_getElem? (k := 51) rfl (selects_five_iff (g := 0b10000#5).mpr ⟨e, rfl⟩)
  simp only [decode_row_two ii rest hrow rfl, lowThree_append]

theorem decode_brT (t : BitVec 4) (ii : Byte) :
    decode (groupByte 0x9 t :: ii :: rest) = .ok (.brT t ii, rest) := by
  have hrow := rowOf_eq_of_getElem? (k := 60) rfl
    (selects_group_iff (g := 0x9).mpr ⟨⟨t, rfl⟩, List.not_mem_nil⟩)
  simp only [decode_row_two ii rest hrow rfl, lowNibble_groupByte]

end

theorem decode_encode {i : Instr} (hwf : i.wellFormed = true) (rest : List Byte) :
    decode (encode i ++ rest) = .ok (i, rest) := by
  cases i with
  | pi x | jmp x | dci x => exact decode_rowI16 rest rfl x
  | ds r => exact decode_rowR rest 0x3 (k := 45) rfl r
  | lrAR r => exact decode_rowR rest 0x4 (k := 46) rfl r
  | lrRA r => exact decode_rowR rest 0x5 (k := 47) rfl r
  | lisu e => exact decode_rowE rest 0b01100 (k := 48) rfl e
  | lisl e => exact decode_rowE rest 0b01101 (k := 49) rfl e
  | lis n => exact decode_group rest 0x7 (k := 50) rfl nofun
  | bt e ii => exact decode_bt rest e ii
  | brT t ii => exact decode_brT rest t ii
  | ins01 p => exact decode_seven rest 0b1010000 (k := 61) rfl p
  | insN n => exact decode_group rest 0xA (k := 62) rfl (not_mem_excluded_iff.mpr hwf)
  | outs01 p => exact decode_seven rest 0b1011000 (k := 63) rfl p
  | outsN n => exact decode_group rest 0xB (k := 64) rfl (not_mem_excluded_iff.mpr hwf)
  | asR r => exact decode_rowR rest 0xC (k := 65) rfl r
  | asdR r => exact decode_rowR rest 0xD (k := 66) rfl r
  | xsR r => exact decode_rowR rest 0xE (k := 67) rfl r
  | nsR r => exact decode_rowR rest 0xF (k := 68) rfl r
  | _ => rfl

/-- Settles O1: the row each opcode byte was written for selects it, and no other row does. -/
theorem decodeOfEncodeIsTheInstruction : Obligations.DecodeOfEncodeIsTheInstruction :=
  fun _ rest hwf => decode_encode hwf rest

end Sys2Proof
end

section
/-! PROOFS. The step that fetches: what a fetch answers by the opcode byte, where it is refused, and the word placed for it. -/

namespace Sys2Proof.Machine

open Sys2Proof.Spec

/-! ### What a fetch answers (R44, R50, R65) -/

theorem opcodeLength_of_rowOf {b : Byte} {row : OpRow} (h : rowOf b = some row) : opcodeLength b = some row.length := by
  rw [opcodeLength, h, Option.map_some]

theorem fetch_of_mem_undefinedOpcodes {s : State} (h : (s.memRead s.pc0).1 ∈ undefinedOpcodes) :
    fetch s = .error (.undefinedOpcode (s.memRead s.pc0).1) := by
  simp only [fetch, opcodeLength, rowOf_eq_none_iff.mpr h, Option.map_none]

theorem fetch_eq_ok {s : State} {i : Instr} {rest : List Byte} {n : Nat}
    (hlen : opcodeLength (s.memRead s.pc0).1 = some (n + 1))
    (hdec : decode (State.readBytes (n + 1) s.pc0 s).1 = .ok (i, rest)) :
    fetch s = .ok (i, (State.readBytes (n + 1) s.pc0 s).2) := by
  simp only [State.readBytes] at hdec ⊢
  simp only [fetch, hlen, Nat.add_sub_cancel, hdec]

theorem State.readBytes_length (n : Nat) (addr : Word) (s : State) : (State.readBytes n addr s).1.length = n := by
  induction n generalizing addr s with
  | zero => rfl
  | succ n ih => rw [State.readBytes, List.length_cons, ih]

theorem length_of_mem_opRows : ∀ row ∈ opRows, row.length = 1 ∨ row.length = 2 ∨ row.length = 3 := by decide

/-- With as many bytes as the row asks for, decoding answers and leaves none over. -/
theorem exists_decode_of_length {b : Byte} {bs : List Byte} {row : OpRow} (hrow : rowOf b = some row)
    (hlen : bs.length + 1 = row.length) : ∃ i, decode (b :: bs) = .ok (i, []) := by
  rcases length_of_mem_opRows row (rowOf_mem hrow).1 with h1 | h2 | h3
  · obtain rfl : bs = [] := List.length_eq_zero_iff.mp (by omega)
    exact ⟨_, decode_row_one [] hrow h1⟩
  · obtain ⟨b1, rfl⟩ := List.length_eq_one_iff.mp (by omega : bs.length = 1)
    exact ⟨_, decode_row_two b1 [] hrow h2⟩
  · obtain ⟨b1, b2, rfl⟩ := List.length_eq_two.mp (by omega : bs.length = 2)
    exact ⟨_, decode_row_three b1 b2 [] hrow h3⟩

/-- A fetch through a defined opcode answers, whatever the operand bytes are. -/
theorem exists_fetch_of_not_mem_undefinedOpcodes {s : State} (h : (s.memRead s.pc0).1 ∉ undefinedOpcodes) :
    ∃ i bs s', decode ((s.memRead s.pc0).1 :: bs) = .ok (i, []) ∧ fetch s = .ok (i, s') := by
  obtain ⟨row, hrow⟩ := Option.ne_none_iff_exists'.mp (mt rowOf_eq_none_iff.mp h)
  obtain ⟨n, hn⟩ : ∃ n, row.length = n + 1 :=
    Nat.exists_eq_succ_of_ne_zero (by have := length_of_mem_opRows row (rowOf_mem hrow).1; omega)
  have hlen : (State.readBytes n (s.pc0 + 1) (s.memRead s.pc0).2).1.length + 1 = row.length := by
    rw [State.readBytes_length, hn]
  obtain ⟨i, hdec⟩ := exists_decode_of_length hrow hlen
  exact ⟨i, _, _, hdec, fetch_eq_ok (hn ▸ opcodeLength_of_rowOf hrow) hdec⟩

/-! ### Where an instruction is refused (R210, R211, R212) -/

theorem exec_completes {i : Instr} (s : State) (hinc : i ≠ .inc) (hlis : ∀ n, i ≠ .lis n) : ∃ t, exec i s = .next t := by
  cases i with
  | inc => exact absurd rfl hinc
  | lis n => exact absurd rfl (hlis n)
  | _ => exact ⟨_, rfl⟩

theorem exec_inc_eq_refused_iff {s : State} {r : Refusal} :
    exec .inc s = .refused r ↔ r = .undefinedOpcode 0x1F ∧ s.platform.admitUnlisted = false := by
  cases hadmit : s.platform.admitUnlisted <;> simp [exec, execInc, hadmit, eq_comm]

theorem exec_lis_eq_refused_iff {s : State} {n : BitVec 4} {r : Refusal} :
    exec (.lis n) s = .refused r ↔ r = .undefinedOpcode (groupByte 0x7 n) ∧ s.platform.admitUnlisted = false := by
  cases hadmit : s.platform.admitUnlisted <;> simp [exec, execLis, groupByte, hadmit, eq_comm]

theorem upper_digit_eq_seven_iff : ∀ b : Byte, b.toNat / 16 = 7 ↔ b = groupByte 0x7 (lowNibble b) := by decide

theorem upper_digit_groupByte_seven (n : BitVec 4) : (groupByte 0x7 n).toNat / 16 = 7 := by
  rw [upper_digit_eq_seven_iff, lowNibble_groupByte]

/-- INC and LIS have the unlisted opcode bytes 1F and 70 to 7F, and no other instruction has one. -/
theorem decode_eq_unlisted {b : Byte} {bs rest : List Byte} {i : Instr} (hdec : decode (b :: bs) = .ok (i, rest))
    (hb : b = 0x1F ∨ b.toNat / 16 = 7) : i = .inc ∨ ∃ n, i = .lis n := by
  rcases hb with rfl | hb
  · have hinc : decode (0x1F :: bs) = .ok (.inc, bs) := decode_encode (i := .inc) rfl bs
    rw [hinc] at hdec
    cases hdec
    exact .inl rfl
  · have hlis := decode_encode (i := .lis (lowNibble b)) rfl bs
    rw [encode, ← (upper_digit_eq_seven_iff b).mp hb, List.singleton_append, hdec] at hlis
    cases hlis
    exact .inr ⟨_, rfl⟩

/-- An instruction is refused where its opcode byte is an unlisted one that is not admitted. -/
theorem exec_eq_refused_iff {b : Byte} {bs rest : List Byte} {i : Instr} {s : State} {r : Refusal}
    (hdec : decode (b :: bs) = .ok (i, rest)) :
    exec i s = .refused r ↔
      r = .undefinedOpcode b ∧ s.platform.admitUnlisted = false ∧ (b = 0x1F ∨ b.toNat / 16 = 7) := by
  have henc := (wellFormed_and_eq_encode_of_decode hdec).2
  by_cases hi : i = .inc ∨ ∃ n, i = .lis n
  · rcases hi with rfl | ⟨n, rfl⟩
    · obtain rfl : b = 0x1F := (List.cons.inj henc).1
      rw [exec_inc_eq_refused_iff]
      simp
    · obtain rfl : b = groupByte 0x7 n := (List.cons.inj henc).1
      rw [exec_lis_eq_refused_iff]
      simp only [upper_digit_groupByte_seven, or_true, and_true]
  · obtain ⟨t, ht⟩ := exec_completes s (fun h => hi (.inl h)) fun n h => hi (.inr ⟨n, h⟩)
    rw [ht]
    exact ⟨nofun, fun ⟨_, _, hb⟩ => absurd (decode_eq_unlisted hdec hb) hi⟩

theorem fetchAndRun_eq_refused_iff {s : State} {r : Refusal} :
    fetchAndRun exec s = .refused r ↔
      r = .undefinedOpcode (s.memRead s.pc0).1 ∧
        ((s.memRead s.pc0).1 ∈ undefinedOpcodes ∨
          (s.platform.admitUnlisted = false ∧
            ((s.memRead s.pc0).1 = 0x1F ∨ (s.memRead s.pc0).1.toNat / 16 = 7))) := by
  by_cases hundef : (s.memRead s.pc0).1 ∈ undefinedOpcodes
  · simp only [fetchAndRun, fetch_of_mem_undefinedOpcodes hundef, hundef, true_or, and_true,
      Host.Outcome.refused.injEq]
    exact eq_comm
  · obtain ⟨i, bs, s', hdec, hfetch⟩ := exists_fetch_of_not_mem_undefinedOpcodes hundef
    have hplatform : s'.platform = s.platform := by rw [fetch_state hfetch]
    simp only [fetchAndRun, hfetch, exec_eq_refused_iff hdec, hplatform, hundef, false_or]

theorem onNext_eq_refused_iff {f : State → State} {x : Host.Outcome State Fault Refusal} {r : Refusal} :
    onNext f x = .refused r ↔ x = .refused r := by
  cases x <;> simp [onNext]

theorem step_eq_fetchAndRun {s : State} (hreset : s.pins.extrst = false) (hdue : s.interruptDue = false) :
    step s = onNext State.nextPins (fetchAndRun exec s) := by
  simp [step, hreset, hdue]

theorem step_eq_refused_iff {s : State} {r : Refusal} :
    step s = .refused r ↔ s.pins.extrst = false ∧ s.interruptDue = false ∧ fetchAndRun exec s = .refused r := by
  unfold step
  split
  next hreset => simp [onNext_eq_refused_iff, hreset]
  next hreset =>
    split
    next hdue => simp [onNext_eq_refused_iff, hdue]
    next hdue => simp [onNext_eq_refused_iff, hreset, hdue]

/-- Settles O14: there is no fault to answer, and of the steps only one that fetches can be refused. -/
theorem stepStopsExactlyAtUndefinedOpcodes : Obligations.StepStopsExactlyAtUndefinedOpcodes := fun s =>
  ⟨nofun, fun r => by rw [step_eq_refused_iff, fetchAndRun_eq_refused_iff]⟩

/-! ### The step that runs what stands at PC0 -/

theorem encode_length_pos (i : Instr) : 0 < (encode i).length := by
  cases i <;> exact Nat.succ_pos _

theorem opcodeLength_of_decode {b : Byte} {bs rest : List Byte} {i : Instr} (h : decode (b :: bs) = .ok (i, rest)) :
    opcodeLength b = some (encode i).length := by
  obtain ⟨b1, b2, row, hrow, -, rfl⟩ := decode_cons_eq_ok h
  obtain ⟨hmem, hsel⟩ := rowOf_mem hrow
  have hlen := length_of_mem_opRows row hmem
  rw [(opRows_spellEncoding row hmem b b1 b2 hsel).2, opcodeLength_of_rowOf hrow, List.length_take_of_le]
  simp only [List.length_cons, List.length_nil]
  omega

/-- Where the three bytes at PC0 decode, and those that the instruction takes are there, a fetch reads it and draws nothing. -/
theorem fetch_of_decode {s : State} {i : Instr} {rest : List Byte}
    (hdec : decode [s.byteAt s.pc0, s.byteAt (s.pc0 + 1), s.byteAt (s.pc0 + 2)] = .ok (i, rest))
    (hpresent : ∀ k : Nat, k + rest.length < 3 → s.kindAt (s.pc0 + BitVec.ofNat 16 k) ≠ .absent) :
    fetch s = .ok (i, s) := by
  obtain ⟨hwf, hbytes⟩ := wellFormed_and_eq_encode_of_decode hdec
  have hlen : 3 = (encode i).length + rest.length := by rw [← List.length_append, ← hbytes]; rfl
  obtain ⟨n, hn⟩ := Nat.exists_eq_succ_of_ne_zero (encode_length_pos i).ne'
  have hopcode : (s.memRead s.pc0).1 = s.byteAt s.pc0 := by
    rw [State.memRead_of_present]
    simpa using hpresent 0 (by omega)
  have hthree : (List.range 3).map (fun k => s.byteAt (s.pc0 + BitVec.ofNat 16 k)) = encode i ++ rest := by
    simpa [List.range_succ] using hbytes
  have hread : State.readBytes (n + 1) s.pc0 s = (encode i, s) := by
    have htake := congrArg (List.take (n + 1)) hthree
    rw [← List.map_take, List.take_range, Nat.min_eq_left (by omega), List.take_left' hn] at htake
    rw [State.readBytes_present _ _ _ fun k hk => hpresent k (by omega), htake]
  have hfetch : fetch s = .ok (i, (State.readBytes (n + 1) s.pc0 s).2) := by
    refine fetch_eq_ok (rest := []) (by rw [hopcode, opcodeLength_of_decode hdec, hn]) ?_
    simpa [hread] using decode_encode hwf []
  rw [hfetch, hread]

/-! ### Placing a word (log 13) -/

/-- A byte stands at an address, so that a read there gives it. -/
def State.Has (s : State) (x : Word) (b : Byte) : Prop := s.kindAt x ≠ .absent ∧ s.byteAt x = b

theorem State.placeByte_cases (s : State) (x : Word) (b : Byte) :
    (s.kindAt x ≠ .absent ∧ s.placeByte x b = s.poke x b) ∨
      (s.kindAt x = .absent ∧ s.placeByte x b =
        { s.poke x b with platform := { s.platform with memMap := ⟨x, x, .ram⟩ :: s.platform.memMap } }) := by
  simp only [State.placeByte, State.poke_kindAt]
  cases s.kindAt x <;> simp

theorem regionHolds_single_iff {x y : Word} {kind : MemKind} : regionHolds ⟨x, x, kind⟩ y = true ↔ y = x := by
  simp only [← BitVec.toNat_inj, regionHolds, Bool.and_eq_true, decide_eq_true_eq]
  omega

theorem State.placeByte_has_self (s : State) (x : Word) (b : Byte) : (s.placeByte x b).Has x b := by
  rcases s.placeByte_cases x b with ⟨hpresent, h⟩ | ⟨-, h⟩ <;> rw [h]
  · exact ⟨hpresent, s.byteAt_poke_self x b⟩
  · refine ⟨?_, s.byteAt_poke_self x b⟩
    simp [State.kindAt, mapKind, regionHolds_single_iff]

theorem State.Has.placeByte {s : State} {x y : Word} {b : Byte} (h : s.Has x b) (hne : x ≠ y) (c : Byte) :
    (s.placeByte y c).Has x b := by
  obtain ⟨hkind, hbyte⟩ := h
  have hpoke : (s.poke y c).byteAt x = b := (s.byteAt_poke_other c hne).trans hbyte
  rcases s.placeByte_cases y c with ⟨-, h⟩ | ⟨-, h⟩ <;> rw [h]
  · exact ⟨hkind, hpoke⟩
  · refine ⟨?_, hpoke⟩
    simpa [State.kindAt, mapKind, regionHolds_single_iff, hne] using hkind

@[simp] theorem State.placeByte_pc0 (s : State) (x : Word) (b : Byte) : (s.placeByte x b).pc0 = s.pc0 := by
  rcases s.placeByte_cases x b with ⟨-, h⟩ | ⟨-, h⟩ <;> rw [h] <;> rfl

@[simp] theorem State.placeByte_pins (s : State) (x : Word) (b : Byte) : (s.placeByte x b).pins = s.pins := by
  rcases s.placeByte_cases x b with ⟨-, h⟩ | ⟨-, h⟩ <;> rw [h] <;> rfl

@[simp] theorem State.placeBytes_pc0 (s : State) (x : Word) (bs : List Byte) : (s.placeBytes x bs).pc0 = s.pc0 := by
  induction bs generalizing x s with
  | nil => rfl
  | cons b bs ih => rw [State.placeBytes, ih, State.placeByte_pc0]

@[simp] theorem State.placeBytes_pins (s : State) (x : Word) (bs : List Byte) : (s.placeBytes x bs).pins = s.pins := by
  induction bs generalizing x s with
  | nil => rfl
  | cons b bs ih => rw [State.placeBytes, ih, State.placeByte_pins]

theorem State.placeBytes_three_has (s : State) (x : Word) (b0 b1 b2 : Byte) :
    (s.placeBytes x [b0, b1, b2]).Has x b0 ∧ (s.placeBytes x [b0, b1, b2]).Has (x + 1) b1 ∧
      (s.placeBytes x [b0, b1, b2]).Has (x + 2) b2 := by
  have h01 : x ≠ x + 1 := by bv_omega
  have h02 : x ≠ x + 1 + 1 := by bv_omega
  have h12 : x + 1 ≠ x + 1 + 1 := by bv_omega
  have h2 : x + 2 = x + 1 + 1 := by bv_omega
  rw [h2]
  exact ⟨((State.placeByte_has_self _ _ _).placeByte h01 _).placeByte h02 _,
    (State.placeByte_has_self _ _ _).placeByte h12 _, State.placeByte_has_self _ _ _⟩

theorem decode_of_decodeTableWord {nbits w : Nat} {i : Instr} (h : decodeTableWord nbits w = some i) :
    ∃ rest, decode (tableBytes nbits w) = .ok (i, rest) := by
  unfold decodeTableWord at h
  split at h
  next j rest hdec => exact ⟨rest, by rw [hdec, Option.some.inj h]⟩
  · cases h

theorem fetch_withFetchWord (s : State) {nbits w : Nat} {i : Instr} (h : decodeTableWord nbits w = some i) :
    fetch (s.withFetchWord nbits w) = .ok (i, s.withFetchWord nbits w) := by
  obtain ⟨rest, hdec⟩ := decode_of_decodeTableWord h
  obtain ⟨b0, b1, b2, htable⟩ : ∃ b0 b1 b2, tableBytes nbits w = [b0, b1, b2] := ⟨_, _, _, rfl⟩
  rw [htable] at hdec
  rw [State.withFetchWord, htable]
  obtain ⟨⟨hkind0, h0⟩, ⟨hkind1, h1⟩, ⟨hkind2, h2⟩⟩ := s.quietPins.placeBytes_three_has s.pc0 b0 b1 b2
  have hpc : (State.placeBytes s.pc0 [b0, b1, b2] s.quietPins).pc0 = s.pc0 := State.placeBytes_pc0 _ _ _
  refine fetch_of_decode (rest := rest) ?_ fun k hk => ?_
  · rw [hpc, h0, h1, h2]
    exact hdec
  · rw [hpc]
    match k, (by omega : k < 3) with
    | 0, _ => simpa using hkind0
    | 1, _ => exact hkind1
    | 2, _ => exact hkind2

/-- Settles O7: the pins of the placed state are quiet, and its fetch reads the word. -/
theorem placedWordIsRunNext : Obligations.PlacedWordIsRunNext := by
  intro s nbits w i h
  have hpins : (s.withFetchWord nbits w).pins = { s.pins with extrst := false, intreq := false } :=
    State.placeBytes_pins _ _ _
  have hdue : (s.withFetchWord nbits w).interruptDue = false := by simp [State.interruptDue, hpins]
  rw [step_eq_fetchAndRun (by rw [hpins]) hdue]
  simp only [fetchAndRun, fetch_withFetchWord s h]

end Sys2Proof.Machine
end

section
/-! PROOFS. The rules of 40_accumulator_reference.md, and the layer every instruction's statement is read through: its bytes by
the decoder's round trip, its state by the statements' own reads and numbers. -/

namespace Sys2Proof.Machine

open Sys2Proof.Spec

/-! ### The bytes of an instruction (R27, R61, R65) -/

/-- The decoding half comes with the round trip. -/
theorem encodedAs_of_encode {i : Instr} {bytes : List Byte} (henc : encode i = bytes := by rfl)
    (hwf : i.wellFormed = true := by rfl) : EncodedAs i bytes :=
  ⟨henc, fun rest => henc ▸ decode_encode hwf rest⟩

theorem groupByte_scratchCode (g : BitVec 4) (r : ScratchOperand) :
    groupByte g (scratchCode r) = BitVec.ofNat 8 (16 * g.toNat + fieldOf r) := by
  have hcode : (scratchCode r).toNat = fieldOf r := by
    cases r with
    | direct n => revert n; decide
    | _ => rfl
  have hlt := (scratchCode r).isLt
  apply BitVec.eq_of_toNat_eq
  rw [groupByte, BitVec.toNat_append, ← Nat.shiftLeft_add_eq_or_of_lt hlt, BitVec.toNat_ofNat, Nat.shiftLeft_eq]
  omega

/-- Format OP_R (R61), with the field as a number. -/
theorem encodedAs_opR (g : BitVec 4) {i : Instr} {r : ScratchOperand}
    (henc : encode i = [groupByte g (scratchCode r)] := by rfl) (hwf : i.wellFormed = true := by rfl) :
    EncodedAs i (opR g.toNat r) :=
  encodedAs_of_encode (henc.trans (congrArg ([·]) (groupByte_scratchCode g r))) hwf

theorem undefinedByte_of_mem {b : Byte} (h : b ∈ undefinedOpcodes := by decide) : UndefinedByte b :=
  fun rest => decode_undefined rest (rowOf_eq_none_iff.mpr h)

/-! ### The model's operations in the words of the statements -/

theorem State.scratchOperand_eq (s : State) (r : ScratchOperand) :
    s.scratchOperand r = (s.reg (selected r s), stepped r s) := by
  rw [State.scratchOperand, s.scratchRef_eq]
  rfl

theorem State.memOperand_eq (s : State) : s.memOperand = (dataByte s, afterData s) := by
  rw [State.memOperand, dataByte, afterData]
  by_cases h : s.kindAt s.dc0 = .absent
  · rw [State.memRead_of_absent h, if_pos h, if_pos h]
    rfl
  · rw [State.memRead_of_present h, if_neg h, if_neg h]
    rfl

theorem packStatus_eq_withFlags (w : BitVec 5) (f : Flags) : packStatus (w.getLsbD 4) f = withFlags w f := by
  obtain ⟨o, z, c, s⟩ := f
  revert w o z c s
  decide

theorem State.setFlags_eq (s : State) (f : Flags) : s.setFlags f = { s with w := withFlags s.w f } :=
  congrArg s.setW (packStatus_eq_withFlags s.w f)

theorem State.setAFlags_eq_intoA (s : State) (p : Byte × Flags) : s.setAFlags p = intoA s p :=
  (s.setA p.1).setFlags_eq p.2

theorem State.reg_setReg (s : State) (k : ScratchIndex) (v : Byte) (j : ScratchIndex) :
    (s.setReg k v).reg j = regsWith s k v j := by
  rw [regsWith]
  split
  case isTrue h => rw [h, State.reg_setReg_self]
  case isFalse h => exact s.reg_setReg_other v h

/-- An untagged instruction of one byte that writes one register, on top of the effects in `u`. -/
theorem doesScratch_setReg {i : Instr} {bytes : List Byte} {s u : State} {k : ScratchIndex} {v : Byte}
    (hexec : exec i s = .next ((u.setReg k v).advance 1)) (henc : EncodedAs i bytes) :
    DoesScratch i bytes s (ends u 1) (regsWith u k v) :=
  ⟨⟨_, hexec, u.reg_setReg k v, rfl⟩, henc⟩

/-! ### LR -/

/-- Settles O31: each instruction is one register read or one register write. -/
theorem lrMovesAAndTheNamedRegisters : Obligations.LrMovesAAndTheNamedRegisters := fun _ =>
  ⟨⟨rfl, encodedAs_of_encode⟩, ⟨rfl, encodedAs_of_encode⟩, ⟨rfl, encodedAs_of_encode⟩, ⟨rfl, encodedAs_of_encode⟩,
    doesScratch_setReg rfl encodedAs_of_encode, doesScratch_setReg rfl encodedAs_of_encode,
    doesScratch_setReg rfl encodedAs_of_encode, doesScratch_setReg rfl encodedAs_of_encode⟩

theorem lowSixBits_eq_ofNat (v : Byte) : v.extractLsb' 0 6 = BitVec.ofNat 6 (v.toNat % 64) := by
  apply BitVec.eq_of_toNat_eq
  simp

theorem exec_lrAIs (s : State) :
    exec .lrAIs s = .next (ends { s with a := BitVec.ofNat 8 s.isar.toNat } 1) := by
  rw [BitVec.ofNat_toNat]
  rfl

theorem exec_lrIsA (s : State) :
    exec .lrIsA s = .next (ends { s with isar := BitVec.ofNat 6 (s.a.toNat % 64) } 1) := by
  rw [← lowSixBits_eq_ofNat]
  rfl

/-- Settles O32: the fit of 6 and 8 bits, in numbers. -/
theorem lrMovesAAndIsar : Obligations.LrMovesAAndIsar := fun s =>
  ⟨⟨exec_lrAIs s, encodedAs_of_encode⟩, ⟨exec_lrIsA s, encodedAs_of_encode⟩⟩

theorem exec_lrAR (r : ScratchOperand) (s : State) :
    exec (.lrAR r) s = .next (ends { stepped r s with a := s.reg (selected r s) } 1) := by
  change execLrAR r s = _
  rw [execLrAR, s.scratchOperand_eq]
  rfl

theorem exec_lrRA (r : ScratchOperand) (s : State) :
    exec (.lrRA r) s = .next (((stepped r s).setReg (selected r s) s.a).advance 1) := by
  change execLrRA r s = _
  rw [execLrRA, s.scratchRef_eq]
  rfl

/-- Settles O33: the operand is R27's, and its step of ISAR touches no register. -/
theorem lrMovesAAndASelectedRegister : Obligations.LrMovesAAndASelectedRegister :=
  ⟨fun r s => ⟨⟨exec_lrAR r s, encodedAs_opR 0x4⟩, doesScratch_setReg (exec_lrRA r s) (encodedAs_opR 0x5)⟩,
    undefinedByte_of_mem, undefinedByte_of_mem⟩

/-! ### LM and ST -/

theorem exec_lm (s : State) : exec .lm s = .next (ends { afterData s with a := dataByte s } 1) := by
  change execLm s = _
  rw [execLm, s.memOperand_eq]
  rfl

/-- Settles O34: LM's operand is the byte at DC0. -/
theorem lmLoadsTheByteAtDc0 : Obligations.LmLoadsTheByteAtDc0 := fun s => ⟨exec_lm s, encodedAs_of_encode⟩

theorem State.byteAt_memWrite (s : State) (x : Word) (v : Byte) (y : Word) :
    (s.memWrite x v).byteAt y = if y = x ∧ s.kindAt y = .ram then v else s.byteAt y := by
  by_cases hyx : y = x
  · subst hyx
    rcases s.memWrite_cases y v with ⟨hram, hwrite⟩ | ⟨hram, hwrite⟩
    · rw [hwrite, State.byteAt_poke_self, if_pos ⟨rfl, hram⟩]
    · rw [hwrite, if_neg fun h => hram h.2]
  · rw [if_neg fun h => hyx h.1]
    rcases s.memWrite_cases x v with ⟨-, hwrite⟩ | ⟨-, hwrite⟩
    · rw [hwrite, s.byteAt_poke_other v hyx]
    · rw [hwrite]

theorem State.memWrite_eq (s : State) (x : Word) (v : Byte) :
    s.memWrite x v = { s with mem := (s.memWrite x v).mem } := by
  rcases s.memWrite_cases x v with ⟨-, hwrite⟩ | ⟨-, hwrite⟩
  · rw [hwrite, State.poke]
  · rw [hwrite]

theorem exec_st (s : State) :
    exec .st s = .next (ends { s with mem := (s.memWrite s.dc0 s.a).mem, dc0 := s.dc0 + 1 } 1) := by
  change execSt s = _
  rw [execSt, s.memWrite_eq]
  rfl

/-- Settles O35: ST's one write of memory is MemWrite at DC0. -/
theorem stStoresAAtDc0 : Obligations.StStoresAAtDc0 := by
  refine fun s => ⟨⟨_, exec_st s, ?_, rfl, ?_⟩, encodedAs_of_encode⟩
  · exact s.byteAt_memWrite s.dc0 s.a
  · intro hram
    change (s.memWrite s.dc0 s.a).mem = s.mem
    rw [State.memWrite_of_not_ram hram]

/-! ### AS, ASD, NS, XS -/

/-- An untagged instruction of one byte that puts a function of A and its scratchpad operand into A and the flags. -/
theorem exec_of_scratchOperand {i : Instr} {r : ScratchOperand} {s : State} (f : Byte → Byte → Byte × Flags)
    (hexec : exec i s = .next (((s.scratchOperand r).2.setAFlags
      (f (s.scratchOperand r).2.a (s.scratchOperand r).1)).advance 1) := by rfl) :
    exec i s = .next (ends (intoA (stepped r s) (f s.a (s.reg (selected r s)))) 1) := by
  rw [hexec, s.scratchOperand_eq, State.setAFlags_eq_intoA]
  rfl

/-- Settles O36: the operand is R27's, and the result goes into A with its flags and ICB kept. -/
theorem scratchpadArithmeticAndLogic : Obligations.ScratchpadArithmeticAndLogic :=
  ⟨fun r s =>
    ⟨⟨exec_of_scratchOperand (addFlags · · false), encodedAs_opR 0xC⟩,
      ⟨exec_of_scratchOperand (decAdd s.platform.decAdd), encodedAs_opR 0xD⟩,
      ⟨exec_of_scratchOperand (fun a m => logic (a &&& m)), encodedAs_opR 0xF⟩,
      ⟨exec_of_scratchOperand (fun a m => logic (a ^^^ m)), encodedAs_opR 0xE⟩⟩,
    undefinedByte_of_mem, undefinedByte_of_mem, undefinedByte_of_mem, undefinedByte_of_mem⟩

end Sys2Proof.Machine
end

section
/-! PROOFS. The rules of 41_register_reference.md: the register pairs, the status register and J, the data counters, and DS. -/

namespace Sys2Proof.Machine

open Sys2Proof.Spec

/-! ### Register pairs (R13) -/

theorem hiByte_eq_upperByte (x : Word) : hiByte x = upperByte x := by
  apply BitVec.eq_of_toNat_eq
  simp [hiByte, upperByte, Nat.shiftRight_eq_div_pow]

theorem loByte_eq_lowerByte (x : Word) : loByte x = lowerByte x := by
  apply BitVec.eq_of_toNat_eq
  simp [loByte, lowerByte]

theorem State.pair_eq_pairValue (s : State) (u l : ScratchIndex) : s.pair u l = pairValue s u l := by
  have hu := (s.reg u).isLt
  have hl := (s.reg l).isLt
  apply BitVec.eq_of_toNat_eq
  rw [State.pair, joinBytes, BitVec.toNat_append, ← Nat.shiftLeft_add_eq_or_of_lt hl, Nat.shiftLeft_eq, pairValue,
    BitVec.toNat_ofNat]
  omega

/-- The lower byte is written last, so in a pair of one register it would be the one that stays. -/
theorem State.reg_setPair (s : State) {u l : ScratchIndex} (hne : u ≠ l) (x : Word) (j : ScratchIndex) :
    (s.setPair u l x).reg j = regsWithPair s u l x j := by
  rw [State.setPair, State.reg_setReg, regsWith, State.reg_setReg, regsWith, regsWithPair, hiByte_eq_upperByte,
    loByte_eq_lowerByte]
  by_cases hju : j = u
  · rw [if_pos hju, if_pos hju, if_neg (hju ▸ hne)]
  · rw [if_neg hju, if_neg hju]

/-- An untagged instruction of one byte that writes one pair of registers. -/
theorem doesScratch_setPair {i : Instr} {bytes : List Byte} {s : State} {u l : ScratchIndex} {x : Word}
    (hexec : exec i s = .next ((s.setPair u l x).advance 1)) (henc : EncodedAs i bytes) (hne : u ≠ l := by decide) :
    DoesScratch i bytes s (ends s 1) (regsWithPair s u l x) :=
  ⟨⟨_, hexec, s.reg_setPair hne x, rfl⟩, henc⟩

/-- An instruction whose next state is a function of the pair it reads. -/
theorem exec_of_pair {i : Instr} {s : State} {u l : ScratchIndex} (f : Word → State)
    (hexec : exec i s = .next (f (s.pair u l)) := by rfl) : exec i s = .next (f (pairValue s u l)) := by
  rw [hexec, s.pair_eq_pairValue]

/-- Settles O37: each instruction writes one pair of registers, or reads one. -/
theorem lrMovesThePairs : Obligations.LrMovesThePairs := fun s =>
  ⟨doesScratch_setPair rfl encodedAs_of_encode,
    ⟨exec_of_pair fun k => ends { s with pc1 := k } 1, encodedAs_of_encode⟩,
    doesScratch_setPair rfl encodedAs_of_encode,
    ⟨exec_of_pair fun h => ends { s with dc0 := h } 1, encodedAs_of_encode⟩,
    doesScratch_setPair rfl encodedAs_of_encode,
    ⟨exec_of_pair fun q => ends { s with dc0 := q } 1, encodedAs_of_encode⟩⟩

/-- Settles O38: the pair read is where control goes. -/
theorem pkCallsThroughKAndLrP0QJumpsThroughQ : Obligations.PkCallsThroughKAndLrP0QJumpsThroughQ := fun s =>
  ⟨⟨exec_of_pair (endsTagged { s with pc1 := s.pc0 + 1 }), encodedAs_of_encode⟩,
    ⟨exec_of_pair (endsTagged s), encodedAs_of_encode⟩⟩

/-! ### W and J (R128, R129) -/

theorem lowFiveBits_eq_ofNat (v : Byte) : v.extractLsb' 0 5 = BitVec.ofNat 5 (v.toNat % 32) := by
  apply BitVec.eq_of_toNat_eq
  simp

theorem exec_lrWJ (s : State) :
    exec .lrWJ s = .next (endsTagged { s with w := BitVec.ofNat 5 ((s.reg 9).toNat % 32) } (s.pc0 + 1)) := by
  rw [← lowFiveBits_eq_ofNat]
  rfl

theorem exec_lrJW (s : State) :
    exec .lrJW s = .next ((s.setReg 9 (BitVec.ofNat 8 s.w.toNat)).advance 1) := by
  rw [BitVec.ofNat_toNat]
  rfl

/-- Settles O39: the fit of 5 and 8 bits, in numbers. -/
theorem lrMovesWAndJ : Obligations.LrMovesWAndJ := fun s =>
  ⟨⟨exec_lrWJ s, encodedAs_of_encode⟩, doesScratch_setReg (exec_lrJW s) encodedAs_of_encode⟩

/-! ### XDC (R130) -/

/-- Settles O40: XDC's two writes take the values from before either. -/
theorem xdcExchangesTheDataCounters : Obligations.XdcExchangesTheDataCounters := fun _ =>
  ⟨rfl, encodedAs_of_encode⟩

/-! ### DS (R131) -/

theorem addFlags_ff_carry_iff (v : Byte) : (addFlags v 0xFF false).2.c = true ↔ v ≠ 0 := by
  rw [addFlags_carry_iff, ne_eq, ← BitVec.toNat_inj]
  change 256 ≤ v.toNat + 255 + 0 ↔ ¬v.toNat = 0
  omega

theorem addFlags_ff_zero_iff (v : Byte) : (addFlags v 0xFF false).2.z = true ↔ v = 1 := by
  have hv := v.isLt
  rw [addFlags_zero_iff, ← BitVec.toNat_inj]
  change (v.toNat + 255 + 0) % 256 = 0 ↔ v.toNat = 1
  omega

theorem addFlags_ff_overflow_iff (v : Byte) : (addFlags v 0xFF false).2.o = true ↔ v = 0x80 := by
  have hv := v.isLt
  rw [addFlags_overflow_iff_carries, ← BitVec.toNat_inj]
  change ¬(256 ≤ v.toNat + 255 + 0 ↔ 128 ≤ v.toNat % 128 + 127 + 0) ↔ v.toNat = 128
  omega

/-- DS writes the flags beside the register, so the two writes stand here in the other order. -/
theorem exec_ds (r : ScratchOperand) (s : State) {p : Byte × Flags}
    (hp : addFlags (s.reg (selected r s)) 0xFF false = p) :
    exec (.ds r) s =
      .next ((State.setReg (selected r s) p.1 { stepped r s with w := withFlags s.w p.2 }).advance 1) := by
  subst hp
  change execDs r s = _
  rw [execDs, s.scratchRef_eq, State.setFlags_eq]
  rfl

/-- Settles O41: the operand is R27's, and adding 0xFF is taking 1 away, with its flags in numbers. -/
theorem dsDecrementsASelectedRegister : Obligations.DsDecrementsASelectedRegister :=
  ⟨fun r s => ⟨doesScratch_setReg (exec_ds r s rfl) (encodedAs_opR 0x3), addFlags_result_toNat _ 0xFF false,
    addFlags_ff_carry_iff _, addFlags_ff_zero_iff _, addFlags_ff_overflow_iff _⟩, undefinedByte_of_mem⟩

end Sys2Proof.Machine
end

section
/-! PROOFS. The rules of 42_shift.md. -/

namespace Sys2Proof.Machine

open Sys2Proof.Spec

/-! ### The shifts as arithmetic (R140 to R143) -/

theorem upperBits_eq_ofNat_div {m n : Nat} (v : BitVec (m + n)) :
    (v.extractLsb' n m).setWidth (m + n) = BitVec.ofNat (m + n) (v.toNat / 2 ^ n) := by
  have hlt : v.toNat / 2 ^ n < 2 ^ m := Nat.div_lt_of_lt_mul (by rw [← Nat.pow_add']; exact v.isLt)
  apply BitVec.eq_of_toNat_eq
  rw [BitVec.toNat_setWidth, BitVec.extractLsb'_toNat, BitVec.toNat_ofNat, Nat.shiftRight_eq_div_pow,
    Nat.mod_eq_of_lt hlt]

theorem lowerBits_append_zero_eq_ofNat_mul {m n : Nat} (v : BitVec (m + n)) :
    v.extractLsb' 0 m ++ 0#n = BitVec.ofNat (m + n) (v.toNat * 2 ^ n % 2 ^ (m + n)) := by
  apply BitVec.eq_of_toNat_eq
  rw [BitVec.toNat_append, BitVec.extractLsb'_toNat, BitVec.toNat_ofNat, BitVec.toNat_ofNat, Nat.zero_mod, Nat.or_zero,
    Nat.shiftRight_zero, Nat.shiftLeft_eq, Nat.mod_mod, Nat.pow_add, Nat.mul_mod_mul_right]

theorem State.setALogic_eq_intoA (s : State) (v : Byte) : s.setALogic v = intoA s (logic v) :=
  s.setAFlags_eq_intoA (logic v)

/-- An untagged instruction of `len` bytes that puts a logical result into A and the flags, with the result in other words. -/
theorem exec_of_setALogic {i : Instr} {s : State} {v x : Byte} {len : Word} (hv : v = x)
    (hexec : exec i s = .next ((s.setALogic v).advance len) := by rfl) :
    exec i s = .next (ends (intoA s (logic x)) len) := by
  rw [hexec, hv, State.setALogic_eq_intoA]
  rfl

/-- Settles O42: each shift is a division or a multiplication by a power of two, and its result goes into A as a logical one. -/
theorem shiftsAreLogical : Obligations.ShiftsAreLogical := fun s =>
  ⟨⟨exec_of_setALogic (upperBits_eq_ofNat_div (m := 7) (n := 1) s.a), encodedAs_of_encode⟩,
    ⟨exec_of_setALogic (lowerBits_append_zero_eq_ofNat_mul (m := 7) (n := 1) s.a), encodedAs_of_encode⟩,
    ⟨exec_of_setALogic (upperBits_eq_ofNat_div (m := 4) (n := 4) s.a), encodedAs_of_encode⟩,
    ⟨exec_of_setALogic (lowerBits_append_zero_eq_ofNat_mul (m := 4) (n := 4) s.a), encodedAs_of_encode⟩⟩

end Sys2Proof.Machine
end

section
/-! PROOFS. The rules of 43_arithmetic_logic.md. -/

namespace Sys2Proof.Machine

open Sys2Proof.Spec

/-! ### The decimal addition (R165) -/

/-- The carry out of the low digit, R165's ic, is the nibble sum's bit 4. -/
theorem lowDigitCarry_iff (x y : Byte) :
    ((x.extractLsb' 0 4).setWidth 5 + (y.extractLsb' 0 4).setWidth 5 : BitVec 5).getLsbD 4 = true ↔
      16 ≤ x.toNat % 16 + y.toNat % 16 := by
  simp only [getLsbD_iff_toNat, BitVec.toNat_add, BitVec.toNat_setWidth, BitVec.extractLsb'_toNat, Nat.shiftRight_zero]
  omega

/-- A digit of R165: 10 is added where the digit gave no carry. -/
theorem digitCorrected_toNat (carried : Bool) (d : BitVec 4) :
    (if carried then d else d + 0xA).toNat = (d.toNat + if carried then 0 else 10) % 16 := by
  cases carried with
  | false => rfl
  | true => exact (Nat.mod_eq_of_lt d.isLt).symm

/-- R165 digit by digit, with the two digit carries as comparisons. -/
theorem decAddF3850_result_toNat (x y : Byte) :
    (decAddF3850 x y).1.toNat =
      ((x.toNat + y.toNat) % 256 / 16 + if 256 ≤ x.toNat + y.toNat then 0 else 10) % 16 * 16 +
        ((x.toNat + y.toNat) % 16 + if 16 ≤ x.toNat % 16 + y.toNat % 16 then 0 else 10) % 16 := by
  have hsum : (addFlags x y false).1.toNat = (x.toNat + y.toNat) % 256 := addFlags_result_toNat x y false
  have hcarry : (addFlags x y false).2.c = true ↔ 256 ≤ x.toNat + y.toNat := addFlags_carry_iff x y false
  rw [decAddF3850, BitVec.toNat_append, ← Nat.shiftLeft_add_eq_or_of_lt (BitVec.isLt _), Nat.shiftLeft_eq,
    digitCorrected_toNat, digitCorrected_toNat, BitVec.extractLsb'_toNat, BitVec.extractLsb'_toNat, hsum,
    Nat.shiftRight_eq_div_pow]
  simp only [hcarry, lowDigitCarry_iff]
  omega

theorem packedDecimal_toNat {n : Nat} (hn : n < 100) : (packedDecimal n).toNat = 16 * (n / 10) + n % 10 := by
  rw [packedDecimal, BitVec.toNat_ofNat]
  omega

/-- The 0x66 added beforehand does not wrap. -/
theorem packedDecimal_add_66_toNat {n : Nat} (hn : n < 100) :
    (packedDecimal n + 0x66).toNat = 16 * (n / 10 + 6) + (n % 10 + 6) := by
  rw [BitVec.toNat_add, packedDecimal_toNat hn]
  change (16 * (n / 10) + n % 10 + 102) % 256 = _
  omega

/-- With 6 already added to each digit, a digit of the binary sum carries exactly where the decimal digits reach 10. -/
theorem decAddF3850_packedDecimal_result {p q : Nat} (hp : p < 100) (hq : q < 100) :
    (decAddF3850 (packedDecimal p + 0x66) (packedDecimal q)).1 = packedDecimal ((p + q) % 100) := by
  apply BitVec.eq_of_toNat_eq
  rw [decAddF3850_result_toNat, packedDecimal_add_66_toNat hp, packedDecimal_toNat hq,
    packedDecimal_toNat (Nat.mod_lt _ (by decide))]
  have hlow : 16 ≤ (16 * (p / 10 + 6) + (p % 10 + 6)) % 16 + (16 * (q / 10) + q % 10) % 16 ↔
      10 ≤ p % 10 + q % 10 := by omega
  have hhigh : 256 ≤ 16 * (p / 10 + 6) + (p % 10 + 6) + (16 * (q / 10) + q % 10) ↔ 100 ≤ p + q := by omega
  simp only [hlow, hhigh]
  split <;> split <;> omega

theorem decAddF3850_packedDecimal_carry_iff {p q : Nat} (hp : p < 100) (hq : q < 100) :
    (decAddF3850 (packedDecimal p + 0x66) (packedDecimal q)).2.c = true ↔ 100 ≤ p + q := by
  change (addFlags _ _ false).2.c = true ↔ _
  rw [addFlags_carry_iff, packedDecimal_add_66_toNat hp, packedDecimal_toNat hq, Bool.toNat_false]
  omega

/-- Settles O29: the digits of the sum by the two digit carries, and the rule's worked values. -/
theorem decimalAdditionIsDecimal : Obligations.DecimalAdditionIsDecimal :=
  ⟨fun _ _ hp hq => ⟨decAddF3850_packedDecimal_result hp hq, decAddF3850_packedDecimal_carry_iff hp hq⟩,
    by decide, by decide, by decide, by decide⟩

/-! ### COM, LNK and the immediate operand (R150 to R156) -/

/-- An untagged instruction of `len` bytes that adds to A and the flags, with its operand in other words. -/
theorem exec_of_addToA {i : Instr} {s : State} {m x : Byte} {len : Word} (hm : m = x)
    (hexec : exec i s = .next ((s.setAFlags (addFlags s.a m false)).advance len) := by rfl) :
    exec i s = .next (ends (intoA s (addFlags s.a x false)) len) := by
  rw [hexec, hm, State.setAFlags_eq_intoA]
  rfl

theorem not_eq_ofNat_sub (v : Byte) : ~~~v = BitVec.ofNat 8 (255 - v.toNat) := by
  apply BitVec.eq_of_toNat_eq
  rw [BitVec.toNat_not, BitVec.toNat_ofNat]
  omega

/-- W.C as the operand of LNK. -/
theorem State.flagC_setWidth_eq_ofNat (s : State) :
    (BitVec.ofBool s.flagC).setWidth 8 = BitVec.ofNat 8 (s.w.toNat / 2 % 2) := by
  apply BitVec.eq_of_toNat_eq
  rw [State.flagC, BitVec.toNat_setWidth, BitVec.toNat_ofBool, BitVec.getLsbD, Nat.toNat_testBit,
    BitVec.toNat_ofNat]

/-- Settles O43: the operand of each in numbers, then the result goes into A with its flags. -/
theorem comComplementsAndLnkAddsTheCarry : Obligations.ComComplementsAndLnkAddsTheCarry := fun s =>
  ⟨⟨exec_of_setALogic (not_eq_ofNat_sub s.a), encodedAs_of_encode⟩,
    ⟨exec_of_addToA s.flagC_setWidth_eq_ofNat, encodedAs_of_encode⟩⟩

/-- Settles O44: LI writes A alone; the others put their result into A with its flags. -/
theorem immediateInstructionsWorkOnA : Obligations.ImmediateInstructionsWorkOnA := fun _ _ =>
  ⟨⟨rfl, encodedAs_of_encode⟩,
    ⟨exec_of_setALogic rfl, encodedAs_of_encode⟩,
    ⟨exec_of_setALogic rfl, encodedAs_of_encode⟩,
    ⟨exec_of_setALogic rfl, encodedAs_of_encode⟩,
    ⟨exec_of_addToA rfl, encodedAs_of_encode⟩⟩

/-! ### CI: subtraction as complement plus one (R157) -/

theorem addFlags_complement_result (x y : Byte) : (addFlags x (~~~y) true).1 = x - y := by
  apply BitVec.eq_of_toNat_eq
  rw [addFlags_result_toNat, BitVec.toNat_not, BitVec.toNat_sub, Bool.toNat_true]
  omega

/-- No borrow. -/
theorem addFlags_complement_carry_iff (x y : Byte) :
    (addFlags x (~~~y) true).2.c = true ↔ y.toNat ≤ x.toNat := by
  rw [addFlags_carry_iff, BitVec.toNat_not, Bool.toNat_true]
  omega

theorem addFlags_complement_zero_iff (x y : Byte) : (addFlags x (~~~y) true).2.z = true ↔ x = y := by
  rw [addFlags_zero_iff, BitVec.toNat_not, Bool.toNat_true, ← BitVec.toNat_inj]
  omega

theorem addFlags_complement_sign_iff (x y : Byte) :
    (addFlags x (~~~y) true).2.s = true ↔ (x - y).toNat < 128 := by
  rw [addFlags_sign_iff, ← addFlags_result_toNat, addFlags_complement_result]

theorem exec_ci (aa : Byte) (s : State) :
    exec (.ci aa) s = .next (ends { s with
      a := if s.platform.ciWritesA = true then (addFlags aa (~~~s.a) true).1 else s.a
      w := withFlags s.w (addFlags aa (~~~s.a) true).2 } 2) := by
  change execCi aa s = _
  rw [execCi, State.setFlags_eq]
  rfl

/-- Settles O45: the flags of the complement-plus-one addition, as comparisons. -/
theorem ciComparesTheImmediateWithA : Obligations.CiComparesTheImmediateWithA := fun s aa =>
  ⟨⟨exec_ci aa s, encodedAs_of_encode⟩, addFlags_complement_result aa s.a, addFlags_complement_zero_iff aa s.a,
    addFlags_complement_carry_iff aa s.a, addFlags_complement_sign_iff aa s.a⟩

/-! ### The memory operand (R158 to R163) -/

/-- An untagged instruction of one byte that puts a function of A and the byte at DC0 into A and the flags. -/
theorem exec_of_memOperand {i : Instr} {s : State} (f : Byte → Byte → Byte × Flags)
    (hexec : exec i s = .next ((s.memOperand.2.setAFlags (f s.memOperand.2.a s.memOperand.1)).advance 1) := by rfl) :
    exec i s = .next (ends (intoA (afterData s) (f s.a (dataByte s))) 1) := by
  rw [hexec, s.memOperand_eq, State.setAFlags_eq_intoA]
  rfl

theorem exec_cm (s : State) :
    exec .cm s =
      .next (ends { afterData s with w := withFlags s.w (addFlags (dataByte s) (~~~s.a) true).2 } 1) := by
  change execCm s = _
  rw [execCm, s.memOperand_eq, State.setFlags_eq]
  rfl

/-- Settles O46: the operand is the byte at DC0, and CM writes nothing but the flags with it. -/
theorem memoryOperandInstructions : Obligations.MemoryOperandInstructions := fun s =>
  ⟨⟨exec_of_memOperand (addFlags · · false), encodedAs_of_encode⟩,
    ⟨exec_of_memOperand (decAdd s.platform.decAdd), encodedAs_of_encode⟩,
    ⟨exec_of_memOperand (fun a m => logic (a &&& m)), encodedAs_of_encode⟩,
    ⟨exec_of_memOperand (fun a m => logic (a ||| m)), encodedAs_of_encode⟩,
    ⟨exec_of_memOperand (fun a m => logic (a ^^^ m)), encodedAs_of_encode⟩,
    ⟨exec_cm s, encodedAs_of_encode⟩⟩

/-! ### ADC (R164) -/

/-- Adding a sign-extended byte is adding its signed value, modulo 2^16. -/
theorem add_sext16_eq_ofInt (x : Word) (b : Byte) : x + sext16 b = BitVec.ofInt 16 ((x.toNat : Int) + b.toInt) := by
  rw [BitVec.ofInt_add, BitVec.ofInt_natCast, BitVec.ofNat_toNat, BitVec.setWidth_eq]
  rfl

theorem exec_adc (s : State) :
    exec .adc s = .next (ends { s with dc0 := BitVec.ofInt 16 ((s.dc0.toNat : Int) + s.a.toInt) } 1) := by
  rw [← add_sext16_eq_ofInt]
  rfl

/-- Settles O47: ADC's one sum, in integers. -/
theorem adcAddsSignedAToDc0 : Obligations.AdcAddsSignedAToDc0 := fun s => ⟨exec_adc s, encodedAs_of_encode⟩

end Sys2Proof.Machine
end

section
/-! PROOFS. The rules of 44_flag_related.md, and the branches of 46_branch.md that test the flags or ISAR. -/

namespace Sys2Proof.Machine

open Sys2Proof.Spec

/-! ### DI and EI (R170, R171) -/

/-- W as its five bits, with bit 4 replaced, and in numbers. -/
theorem packStatus_eq_withIcb (w : BitVec 5) (b : Bool) :
    packStatus b ⟨w.getLsbD 3, w.getLsbD 2, w.getLsbD 1, w.getLsbD 0⟩ = withIcb w b := by
  revert w b
  decide

theorem State.setIcb_eq (s : State) (b : Bool) : s.setIcb b = { s with w := withIcb s.w b } :=
  congrArg s.setW (packStatus_eq_withIcb s.w b)

theorem exec_di (s : State) : exec .di s = .next (ends { s with w := withIcb s.w false } 1) := by
  rw [← State.setIcb_eq]
  rfl

theorem exec_ei (s : State) : exec .ei s = .next (endsTagged { s with w := withIcb s.w true } (s.pc0 + 1)) := by
  rw [← State.setIcb_eq]
  rfl

/-- Settles O48: ICB is W's bit 4, and the other four are written back as they were. -/
theorem diAndEiSetIcb : Obligations.DiAndEiSetIcb := fun s =>
  ⟨⟨exec_di s, encodedAs_of_encode⟩, ⟨exec_ei s, encodedAs_of_encode⟩⟩

/-! ### LISU and LISL (R172, R173) -/

/-- A field below a fixed upper part, as a sum: the opcodes of LISU, LISL, BT and BR t (R61),
and ISAR from its halves (R14). -/
theorem append_eq_ofNat {m n : Nat} (g : BitVec m) (f : BitVec n) :
    g ++ f = BitVec.ofNat (m + n) (g.toNat * 2 ^ n + f.toNat) := by
  rw [← Nat.shiftLeft_eq, Nat.shiftLeft_add_eq_or_of_lt f.isLt, ← BitVec.toNat_append, BitVec.ofNat_toNat,
    BitVec.setWidth_eq]

theorem exec_lisu (e : BitVec 3) (s : State) :
    exec (.lisu e) s = .next (ends { s with isar := BitVec.ofNat 6 (8 * e.toNat + s.isar.toNat % 8) } 1) := by
  change execLisu e s = _
  rw [execLisu, joinIsar, append_eq_ofNat, isarLower_toNat, Nat.mul_comm]
  rfl

theorem exec_lisl (e : BitVec 3) (s : State) :
    exec (.lisl e) s = .next (ends { s with isar := BitVec.ofNat 6 (s.isar.toNat / 8 * 8 + e.toNat) } 1) := by
  change execLisl e s = _
  rw [execLisl, joinIsar, append_eq_ofNat, isarUpper_toNat]
  rfl

/-- Settles O49: each puts `e` beside the half it keeps. -/
theorem lisuAndLislWriteHalvesOfIsar : Obligations.LisuAndLislWriteHalvesOfIsar := fun s e =>
  ⟨⟨exec_lisu e s, encodedAs_of_encode (congrArg ([·]) (append_eq_ofNat 0b01100#5 e))⟩,
    ⟨exec_lisl e s, encodedAs_of_encode (congrArg ([·]) (append_eq_ofNat 0b01101#5 e))⟩⟩

/-! ### BT, BR t and BR7 (R174, R187, R188) -/

/-- The mask's bit k faces W's bit k. -/
theorem testBits_iff {n : Nat} (hn : n ≤ 8) (mask : BitVec n) (w : BitVec 5) :
    testBits mask w = true ↔ ∃ k < n, (mask.getLsbD k && w.getLsbD k) = true := by
  have hbit (k : Nat) : (mask.setWidth 8 &&& (w.extractLsb' 0 n).setWidth 8).getLsbD k =
      (decide (k < n) && (mask.getLsbD k && w.getLsbD k)) := by
    by_cases hk : k < n
    · have hk8 : k < 8 := by omega
      simp [hk, hk8]
    · simp [hk]
  have hsome : testBits mask w = true ↔ ∃ k < 8, k < n ∧ (mask.getLsbD k && w.getLsbD k) = true := by
    rw [testBits, bne_iff_ne, ne_eq, BitVec.eq_of_getLsbD_eq_iff]
    simp [hbit]
  rw [hsome]
  exact ⟨fun ⟨k, _, hk, h⟩ => ⟨k, hk, h⟩, fun ⟨k, hk, h⟩ => ⟨k, hk.trans_le hn, hk, h⟩⟩

theorem testBits_three (e : BitVec 3) (s : State) :
    testBits e s.w = (e.getLsbD 0 && s.flagS || e.getLsbD 1 && s.flagC || e.getLsbD 2 && s.flagZ) := by
  rw [Bool.eq_iff_iff, testBits_iff (by decide)]
  simp only [Nat.exists_lt_succ_right, Nat.not_lt_zero, false_and, exists_false, false_or, Bool.or_eq_true,
    State.flagS, State.flagC, State.flagZ]

theorem testBits_four (t : BitVec 4) (s : State) :
    testBits t s.w = (t.getLsbD 0 && s.flagS || t.getLsbD 1 && s.flagC || t.getLsbD 2 && s.flagZ ||
      t.getLsbD 3 && s.flagO) := by
  rw [Bool.eq_iff_iff, testBits_iff (by decide)]
  simp only [Nat.exists_lt_succ_right, Nat.not_lt_zero, false_and, exists_false, false_or, Bool.or_eq_true,
    State.flagS, State.flagC, State.flagZ, State.flagO]

/-- The model adds in 16 bits what R63 adds in integers. -/
theorem State.branchTarget_eq (s : State) (dd : Byte) : s.branchTarget dd = branchTo s dd := by
  rw [branchTo, BitVec.ofInt_add, BitVec.ofInt_add, BitVec.ofInt_natCast, BitVec.ofNat_toNat, BitVec.setWidth_eq]
  rfl

/-- A conditional branch, with its condition in other words. -/
theorem State.branch_eq (s : State) {taken : Bool} {p : Prop} [Decidable p] (htaken : taken = true ↔ p) (dd : Byte) :
    s.branch taken dd = { s with noint := false, pc0 := if p then branchTo s dd else s.pc0 + 2 } := by
  rw [State.branch, State.branchTarget_eq]
  simp only [htaken]
  rfl

theorem exec_bt (e : BitVec 3) (ii : Byte) (s : State) :
    exec (.bt e ii) s = .next { s with
      noint := false
      pc0 := if (e.getLsbD 0 && s.flagS || e.getLsbD 1 && s.flagC || e.getLsbD 2 && s.flagZ) = true
        then branchTo s ii else s.pc0 + 2 } :=
  congrArg Host.Outcome.next (s.branch_eq (by rw [testBits_three]) ii)

theorem exec_brT (t : BitVec 4) (ii : Byte) (s : State) :
    exec (.brT t ii) s = .next { s with
      noint := false
      pc0 := if (t.getLsbD 0 && s.flagS || t.getLsbD 1 && s.flagC || t.getLsbD 2 && s.flagZ ||
          t.getLsbD 3 && s.flagO) = true
        then s.pc0 + 2 else branchTo s ii } := by
  rw [← ite_not]
  exact congrArg Host.Outcome.next (s.branch_eq (by rw [testBits_four, Bool.not_eq_true', Bool.not_eq_true]) ii)

theorem isarLower_bne_seven_iff (i : ScratchIndex) : (isarLower i != 7) = true ↔ ¬i.toNat % 8 = 7 := by
  rw [bne_iff_ne, ne_eq, ← BitVec.toNat_inj, isarLower_toNat]
  rfl

theorem exec_br7 (ii : Byte) (s : State) :
    exec (.br7 ii) s = .next { s with
      noint := false
      pc0 := if s.isar.toNat % 8 = 7 then s.pc0 + 2 else branchTo s ii } := by
  rw [← ite_not]
  exact congrArg Host.Outcome.next (s.branch_eq (isarLower_bne_seven_iff s.isar) ii)

/-- Settles O50: each branch's test in the flags' names or in numbers, and the two places it can go on at. -/
theorem conditionalBranches : Obligations.ConditionalBranches :=
  ⟨fun s e ii => ⟨exec_bt e ii s, encodedAs_of_encode (congrArg ([·, ii]) (append_eq_ofNat 0b10000#5 e))⟩,
    fun s t ii => ⟨exec_brT t ii s, encodedAs_of_encode (congrArg ([·, ii]) (append_eq_ofNat 0x9#4 t))⟩,
    fun s ii => ⟨exec_br7 ii s, encodedAs_of_encode⟩⟩

end Sys2Proof.Machine
end

section
/-! PROOFS. The rules of 45_push_pop.md, with JMP and DCI of 46_branch.md: the instructions with a 16-bit operand, and POP. -/

namespace Sys2Proof.Machine

open Sys2Proof.Spec

/-! ### PI, POP, JMP and DCI (R180, R181, R185, R186) -/

/-- Settles O51: the bytes of the operand, in numbers, are the two that the model encodes it by, and its upper byte is the
one that PI and JMP leave in A. -/
theorem callReturnJumpAndDci : Obligations.CallReturnJumpAndDci := by
  intro s iijj
  rw [← hiByte_eq_upperByte, ← loByte_eq_lowerByte]
  exact ⟨⟨rfl, encodedAs_of_encode⟩, ⟨rfl, encodedAs_of_encode⟩, ⟨rfl, encodedAs_of_encode⟩,
    ⟨rfl, encodedAs_of_encode⟩⟩

end Sys2Proof.Machine
end

section
/-! PROOFS. The rules of 47_input_output.md. -/

namespace Sys2Proof.Machine

open Sys2Proof.Spec

/-! ### The ports (R44, R47) -/

theorem port01_eq_ofNat (p : BitVec 1) : port01 p = BitVec.ofNat 8 p.toNat := (BitVec.ofNat_toNat 8 p).symm

theorem portN_eq_ofNat (n : BitVec 4) : portN n = BitVec.ofNat 8 n.toNat := (BitVec.ofNat_toNat 8 n).symm

theorem State.portIn_eq_afterPort (s : State) (p : Byte) : s.portIn p = (portValue p s, afterPort p s) := by
  rw [s.portIn_eq, s.portAnswer_eq]
  rfl

theorem afterPort_inputs (s : State) (p : Byte) : (afterPort p s).inputs = s.inputs ++ [(p, portValue p s)] := by
  have h := s.portIn_inputs p
  rwa [s.portIn_eq_afterPort, s.portAnswer_eq] at h

theorem afterPort_outputs (s : State) (p : Byte) : (afterPort p s).outputs = s.outputs := by
  have h := s.portIn_outputs p
  rwa [s.portIn_eq_afterPort] at h

theorem State.inputToA_eq_intoA (s : State) (p : Byte) :
    s.inputToA p = intoA (afterPort p s) (logic (portValue p s)) := by
  rw [State.inputToA, s.portIn_eq_afterPort, State.setALogic_eq_intoA]

theorem State.portOut_a_eq_afterWrite (s : State) (p : Byte) : s.portOut p s.a = afterWrite p s := rfl

/-! ### Input (R195, R197, R198) -/

/-- An input instruction of `len` bytes, with its port in other words. -/
theorem exec_of_inputToA {i : Instr} {s : State} {p q : Byte} {len : Word} (hport : p = q)
    (hexec : exec i s = .next ((s.inputToA p).advance len) := by rfl) :
    exec i s = .next (ends (intoA (afterPort q s) (logic (portValue q s))) len) := by
  rw [hexec, hport, State.inputToA_eq_intoA]
  rfl

/-- Settles O52: the three forms are one read of a port into A, and that read is the event added. -/
theorem inputInstructionsReadThePort : Obligations.InputInstructionsReadThePort :=
  ⟨fun _ _ => ⟨exec_of_inputToA rfl, encodedAs_of_encode⟩,
    fun _ p => ⟨exec_of_inputToA (port01_eq_ofNat p),
      encodedAs_of_encode (congrArg ([·]) (append_eq_ofNat 0b1010000#7 p))⟩,
    fun _ n hn => ⟨exec_of_inputToA (portN_eq_ofNat n),
      encodedAs_of_encode (congrArg ([·]) (append_eq_ofNat 0xA#4 n)) (decide_eq_true hn)⟩,
    fun s p => ⟨afterPort_inputs s p, afterPort_outputs s p⟩⟩

/-! ### Output (R196, R199, R200) -/

/-- An untagged output instruction of `len` bytes, with its port in other words. -/
theorem exec_of_portOut_advance {i : Instr} {s : State} {p q : Byte} {len : Word} (hport : p = q)
    (hexec : exec i s = .next ((s.portOut p s.a).advance len) := by rfl) :
    exec i s = .next (ends (afterWrite q s) len) := by
  rw [hexec, hport, State.portOut_a_eq_afterWrite]
  rfl

/-- A tagged output instruction of `len` bytes, with its port in other words. -/
theorem exec_of_portOut_advanceHeld {i : Instr} {s : State} {p q : Byte} {len : Word} (hport : p = q)
    (hexec : exec i s = .next ((s.portOut p s.a).advanceHeld len) := by rfl) :
    exec i s = .next (endsTagged (afterWrite q s) (s.pc0 + len)) := by
  rw [hexec, hport, State.portOut_a_eq_afterWrite]
  rfl

/-- Settles O53: the three forms are one write of A to a port; OUTS 0|1 alone ends without the tag. -/
theorem outputInstructionsWriteThePort : Obligations.OutputInstructionsWriteThePort :=
  ⟨fun _ _ => ⟨exec_of_portOut_advanceHeld rfl, encodedAs_of_encode⟩,
    fun _ p => ⟨exec_of_portOut_advance (port01_eq_ofNat p),
      encodedAs_of_encode (congrArg ([·]) (append_eq_ofNat 0b1011000#7 p))⟩,
    fun _ n hn => ⟨exec_of_portOut_advanceHeld (portN_eq_ofNat n),
      encodedAs_of_encode (congrArg ([·]) (append_eq_ofNat 0xB#4 n)) (decide_eq_true hn)⟩,
    fun s p => ⟨s.portOut_outputs p s.a, s.portOut_inputs p s.a⟩⟩

/-! ### Ports 2 and 3 (R201) -/

/-- Settles O54: the four bytes are among the undefined opcodes, and IN and OUT treat every port alike. -/
theorem shortPortInstructionsHaveNoPorts2And3 : Obligations.ShortPortInstructionsHaveNoPorts2And3 :=
  have hundefined : ∀ b ∈ ([0xA2, 0xA3, 0xB2, 0xB3] : List Byte), b ∈ undefinedOpcodes := by decide
  ⟨fun b hb => undefinedByte_of_mem (hundefined b hb),
    fun s p _ => ⟨(inputInstructionsReadThePort.1 s p).1, (outputInstructionsWriteThePort.1 s p).1⟩⟩

end Sys2Proof.Machine
end

section
/-! PROOFS. The rules of 48_other.md: INTRPT, RESET and NOP. -/

namespace Sys2Proof.Machine

open Sys2Proof.Spec

/-! ### INTRPT and RESET (R206, R207, R228) -/

/-- What the two sequences share, with W in numbers. -/
theorem State.enter_eq (s : State) (target : Word) :
    s.enter target = { s with pc1 := s.pc0, pc0 := target, w := withIcb s.w false, noint := true } := by
  rw [State.enter, State.setIcb_eq]
  rfl

theorem State.interruptDue_eq_true_iff {s : State} :
    s.interruptDue = true ↔ s.pins.intreq = true ∧ s.icb = true ∧ s.noint = false := by
  simp [State.interruptDue, and_assoc]

theorem step_eq_takeInterrupt {s : State} (hreset : s.pins.extrst = false) (hdue : s.interruptDue = true) :
    step s = .next s.takeInterrupt.nextPins := by
  simp [step, hreset, hdue, onNext]

theorem step_eq_takeReset {s : State} (hreset : s.pins.extrst = true) : step s = .next s.takeReset.nextPins := by
  simp [step, hreset, onNext]

/-- Settles O8: the three conditions are those of an interrupt due, and INTRPT enters at the address on the pins. -/
theorem interruptEntrySavesPcAndClearsIcb : Obligations.InterruptEntrySavesPcAndClearsIcb := by
  intro s hreset hreq hicb hnoint
  have hdue : s.interruptDue = true := State.interruptDue_eq_true_iff.mpr ⟨hreq, hicb, hnoint⟩
  rw [step_eq_takeInterrupt hreset hdue, State.takeInterrupt, State.enter_eq]

/-- Settles O9: the step tests reset first, and RESET enters at 0. -/
theorem resetComesBeforeEverything : Obligations.ResetComesBeforeEverything := by
  intro s hreset
  rw [step_eq_takeReset hreset, State.takeReset, State.enter_eq]

/-! ### NOP (R205) -/

/-- Settles O55: NOP is nothing but the end of an untagged instruction of one byte. -/
theorem nopOnlyAdvances : Obligations.NopOnlyAdvances := fun _ => ⟨rfl, encodedAs_of_encode⟩

end Sys2Proof.Machine
end

section
/-! PROOFS. The rules of 49_not_listed_in_source.md and 60_exceptions.md, with R262 of 70_reset_and_hazards.md: the
unlisted instructions, completion, the pins between instructions, and the hold-off latch. -/

namespace Sys2Proof.Machine

open Sys2Proof.Spec

/-! ### INC and LIS (R210, R211, R212) -/

section
variable {s : State}

theorem exec_inc_of_admitted (h : s.platform.admitUnlisted = true) :
    exec .inc s = .next ((s.setAFlags (addFlags s.a 0x01 false)).advance 1) := if_pos h

theorem exec_lis_of_admitted (n : BitVec 4) (h : s.platform.admitUnlisted = true) :
    exec (.lis n) s = .next ((s.setA (n.setWidth 8)).advance 1) := if_pos h

theorem exec_inc_of_not_admitted (h : s.platform.admitUnlisted = false) :
    exec .inc s = .refused (.undefinedOpcode 0x1F) := exec_inc_eq_refused_iff.mpr ⟨rfl, h⟩

theorem exec_lis_of_not_admitted (n : BitVec 4) (h : s.platform.admitUnlisted = false) :
    exec (.lis n) s = .refused (.undefinedOpcode (groupByte 0x7 n)) := exec_lis_eq_refused_iff.mpr ⟨rfl, h⟩

end

/-- The opcode byte of LIS. -/
theorem groupByte_seven_eq_ofNat (n : BitVec 4) : groupByte 0x7 n = BitVec.ofNat 8 (0x70 + n.toNat) :=
  append_eq_ofNat 0x7#4 n

/-- Settles O56: where they are admitted, INC is an addition of 1 and LIS a load of n widened to a byte. -/
theorem unlistedInstructionsRunWhenAdmitted : Obligations.UnlistedInstructionsRunWhenAdmitted := by
  refine fun s n => ⟨fun hadmit => ⟨⟨?_, encodedAs_of_encode⟩, ⟨?_, ?_⟩⟩, fun hnot => ⟨?_, ?_⟩⟩
  · exact exec_of_addToA rfl (exec_inc_of_admitted hadmit)
  · rw [exec_lis_of_admitted n hadmit, ← BitVec.ofNat_toNat]
    rfl
  · exact encodedAs_of_encode (congrArg ([·]) (groupByte_seven_eq_ofNat n))
  · exact exec_inc_of_not_admitted hnot
  · rw [exec_lis_of_not_admitted n hnot, groupByte_seven_eq_ofNat]

/-! ### Completion (R220, R233) -/

/-- Settles O15: only INC and LIS ask for anything, and what they ask for is ADMIT_UNLISTED. -/
theorem everyInstructionCompletesInEveryState : Obligations.EveryInstructionCompletesInEveryState := by
  refine ⟨fun i s _ hadmit => ?_, fun i s _ hinc hlis => exec_completes s hinc hlis⟩
  cases i with
  | inc => exact ⟨_, exec_inc_of_admitted hadmit⟩
  | lis n => exact ⟨_, exec_lis_of_admitted n hadmit⟩
  | _ => exact exec_completes s nofun nofun

/-! ### The pins and the inside of an instruction (R221) -/

/-- The state with the pins at other levels, now and at the boundaries ahead. -/
def State.withPins (p : Pins) (ahead : List Pins) (s : State) : State := { s with pins := p, pinsAhead := ahead }

@[simp] theorem State.withPins_a (s : State) (p : Pins) (ahead : List Pins) : (s.withPins p ahead).a = s.a := rfl

@[simp] theorem State.withPins_dc0 (s : State) (p : Pins) (ahead : List Pins) : (s.withPins p ahead).dc0 = s.dc0 := rfl

@[simp] theorem State.withPins_platform (s : State) (p : Pins) (ahead : List Pins) :
    (s.withPins p ahead).platform = s.platform := rfl

theorem State.memWrite_withPins (s : State) (p : Pins) (ahead : List Pins) (x : Word) (v : Byte) :
    (s.withPins p ahead).memWrite x v = (s.memWrite x v).withPins p ahead := by
  by_cases hram : s.kindAt x = .ram
  · rw [State.memWrite_of_ram hram, State.memWrite_of_ram (s := s.withPins p ahead) hram]
    rfl
  · rw [State.memWrite_of_not_ram hram, State.memWrite_of_not_ram (s := s.withPins p ahead) hram]

/-- The meanings are written with operations that neither read the pins nor write them. -/
theorem exec_withPins (i : Instr) (s : State) (p : Pins) (ahead : List Pins) :
    exec i (s.withPins p ahead) = onNext (State.withPins p ahead) (exec i s) := by
  cases i with
  | inc | lis =>
    simp only [exec, execInc, execLis, State.withPins_platform, apply_ite (onNext (State.withPins p ahead))]
    rfl
  | st =>
    change execSt (s.withPins p ahead) = _
    rw [execSt, State.withPins_dc0, State.withPins_a, State.memWrite_withPins]
    rfl
  | lm | am | amd | nm | om | xm | cm =>
    simp only [exec, execLm, execAm, execAmd, execNm, execOm, execXm, execCm, State.memOperand_eq]
    rfl
  | ds | lrAR | lrRA | asR | asdR | nsR | xsR =>
    simp only [exec, execDs, execLrAR, execLrRA, execAs, execAsd, execNs, execXs, State.scratchOperand,
      State.scratchRef_eq]
    rfl
  | _ => rfl

/-- Settles O16, instruction by instruction: see `exec_withPins`. -/
theorem pinsDoNotReachInsideAnInstruction : Obligations.PinsDoNotReachInsideAnInstruction := exec_withPins

/-- With the levels it has, a state runs into one with the same levels. -/
theorem exec_pins {i : Instr} {s t : State} (h : exec i s = .next t) :
    t.pins = s.pins ∧ t.pinsAhead = s.pinsAhead := by
  have hown : exec i s = onNext (State.withPins s.pins s.pinsAhead) (exec i s) := exec_withPins i s s.pins s.pinsAhead
  rw [h] at hown
  have ht : t = t.withPins s.pins s.pinsAhead := Host.Outcome.next.inj hown
  rw [ht]
  exact ⟨rfl, rfl⟩

/-- With no levels scheduled the environment has nothing to change. -/
theorem onNext_nextPins_exec {s : State} (i : Instr) (h : s.pinsAhead = []) :
    onNext State.nextPins (exec i s) = exec i s := by
  cases hexec : exec i s with
  | next t =>
    have hahead : t.pinsAhead = [] := (exec_pins hexec).2.trans h
    simp only [onNext, State.nextPins, hahead]
  | fault r => rfl
  | refused r => rfl

/-! ### The step that runs an instruction (R221, R223) -/

theorem step_eq_exec {s : State} {i : Instr} (hreset : s.pins.extrst = false) (hdue : s.interruptDue = false)
    (hfetch : fetch s = .ok (i, s)) : step s = onNext State.nextPins (exec i s) := by
  rw [step_eq_fetchAndRun hreset hdue, fetchAndRun, hfetch]

/-- Settles O6: the fetch reads the bytes that decode, and the step runs what it answers. -/
theorem stepRunsTheDecodedInstruction : Obligations.StepRunsTheDecodedInstruction := by
  intro s i rest hreset hdue hdec hpresent
  have hstep := step_eq_exec hreset hdue (fetch_of_decode hdec hpresent)
  exact ⟨hstep, fun hahead => hstep.trans (onNext_nextPins_exec i hahead)⟩

theorem State.interruptDue_eq_false_iff {s : State} :
    s.interruptDue = false ↔ s.icb = false ∨ s.pins.intreq = false ∨ s.noint = true := by
  rw [← Bool.not_eq_true, State.interruptDue_eq_true_iff, not_and_or, not_and_or, or_left_comm, Bool.not_eq_true,
    Bool.not_eq_true, Bool.not_eq_false]

/-- Settles O10: any one of the three keeps an interrupt from being due. -/
theorem noInterruptUnlessRequestedEnabledAndNotHeldOff :
    Obligations.NoInterruptUnlessRequestedEnabledAndNotHeldOff :=
  fun _ hreset h => step_eq_fetchAndRun hreset (State.interruptDue_eq_false_iff.mpr h)

/-! ### The hold-off latch (R24, R226, R262) -/

theorem State.interruptDue_of_noint {s : State} (h : s.noint = true) : s.interruptDue = false :=
  State.interruptDue_eq_false_iff.mpr (.inr (.inr h))

@[simp] theorem State.nextPins_noint (s : State) : s.nextPins.noint = s.noint := by rw [s.nextPins_eq]

/-- Every instruction ends by writing the latch, as its tag says. -/
theorem exec_noint {i : Instr} {s t : State} (h : exec i s = .next t) : t.noint = tagged i := by
  cases i with
  | inc => exact exec_inc_next h ▸ rfl
  | lis n => exact exec_lis_next h ▸ rfl
  | _ => exact Host.Outcome.next.inj h ▸ rfl

/-- INTRPT and RESET leave the latch set. -/
theorem step_noint_of_enters {s t : State} (h : step s = .next t)
    (henters : s.pins.extrst = true ∨ s.interruptDue = true) : t.noint = true := by
  rcases step_cases h with ⟨-, rfl⟩ | ⟨-, -, rfl⟩ | ⟨hreset, hdue, -⟩
  · exact State.nextPins_noint _
  · exact State.nextPins_noint _
  · simp [hreset, hdue] at henters

theorem step_of_noint {s : State} (h : s.noint = true) (hreset : s.pins.extrst = false) :
    step s = onNext State.nextPins (fetchAndRun exec s) :=
  step_eq_fetchAndRun hreset (State.interruptDue_of_noint h)

/-- Settles O11: who sets the latch, and what it is for. -/
theorem holdOffIsSetExactlyByTaggedRows : Obligations.HoldOffIsSetExactlyByTaggedRows :=
  ⟨fun _ _ _ h => exec_noint h, fun _ _ h henters => step_noint_of_enters h henters,
    fun _ hnoint hreset => step_of_noint hnoint hreset⟩

/-- A step that ran an instruction leaves the latch as the instruction's tag says. -/
theorem step_noint_of_fetch {s s' t : State} {i : Instr} (hreset : s.pins.extrst = false)
    (hdue : s.interruptDue = false) (hfetch : fetch s = .ok (i, s')) (hstep : step s = .next t) :
    t.noint = tagged i := by
  rw [step_eq_fetchAndRun hreset hdue, fetchAndRun, hfetch] at hstep
  obtain ⟨u, hexec, rfl⟩ := onNext_eq_next.mp hstep
  rw [State.nextPins_noint, exec_noint hexec]

/-- Settles O12: the tagged instruction leaves the latch set, and the latch holds an interrupt off. -/
theorem interruptWindowAfterATaggedInstruction : Obligations.InterruptWindowAfterATaggedInstruction :=
  fun _ _ _ _ hreset hdue hfetch htag hstep hreset' =>
    step_of_noint ((step_noint_of_fetch hreset hdue hfetch hstep).trans htag) hreset'

/-! ### The handler's tail (R229) -/

theorem fetch_of_encode_single {s : State} {i : Instr} {b : Byte} (hat : s.Has s.pc0 b) (henc : encode i = [b])
    (hwf : i.wellFormed = true) : fetch s = .ok (i, s) := by
  obtain ⟨hpresent, hbyte⟩ := hat
  refine fetch_of_decode (rest := [s.byteAt (s.pc0 + 1), s.byteAt (s.pc0 + 2)]) ?_ fun k hk => ?_
  · have hdec := decode_encode hwf [s.byteAt (s.pc0 + 1), s.byteAt (s.pc0 + 2)]
    rwa [henc, ← hbyte] at hdec
  · obtain rfl : k = 0 := by change k + 2 < 3 at hk; omega
    simpa using hpresent

/-- Where reset is down now and at every boundary ahead, it is down at the next one. -/
theorem State.nextPins_extrst {s : State} (hreset : s.pins.extrst = false)
    (hahead : ∀ p ∈ s.pinsAhead, p.extrst = false) : s.nextPins.pins.extrst = false := by
  unfold State.nextPins
  split
  next => exact hreset
  next p ps h => exact hahead p (h ▸ .head _)

/-- One step through a one-byte instruction while reset stays down: the instruction's effect, and the pins move on. -/
theorem exists_step_of_encode_single {s t : State} {i : Instr} {b : Byte} (hreset : s.pins.extrst = false)
    (hahead : ∀ p ∈ s.pinsAhead, p.extrst = false) (hdue : s.interruptDue = false) (hat : s.Has s.pc0 b)
    (hexec : exec i s = .next t) (henc : encode i = [b] := by rfl) (hwf : i.wellFormed = true := by rfl) :
    ∃ ps : Pins, ps.extrst = false ∧ step s = .next (t.withPins ps s.pinsAhead.tail) := by
  obtain ⟨hpins, hpinsAhead⟩ := exec_pins hexec
  refine ⟨t.nextPins.pins, State.nextPins_extrst (hpins ▸ hreset) (hpinsAhead ▸ hahead), ?_⟩
  rw [step_eq_exec hreset hdue (fetch_of_encode_single hat henc hwf), hexec, onNext, t.nextPins_eq, hpinsAhead]
  rfl

/-- Settles O13: EI sets ICB and the latch, so the next step is POP, which sets the latch again. -/
theorem eiPopReturnsBeforeTheNextInterrupt : Obligations.EiPopReturnsBeforeTheNextInterrupt := by
  intro s hreset hdue hahead hkind0 hkind1 hbyte0 hbyte1
  obtain ⟨ps, hps, hei⟩ := exists_step_of_encode_single hreset hahead hdue ⟨hkind0, hbyte0⟩ (exec_ei s)
  obtain ⟨qs, hqs, hpop⟩ := exists_step_of_encode_single (i := .pop)
    (s := (endsTagged { s with w := withIcb s.w true } (s.pc0 + 1)).withPins ps s.pinsAhead.tail)
    hps (fun p hp => hahead p (List.mem_of_mem_tail hp)) (State.interruptDue_of_noint rfl) ⟨hkind1, hbyte1⟩ rfl
  refine ⟨_, _, hei, hpop, ?_, step_of_noint rfl hqs⟩
  have htwo : s.pinsAhead.drop 2 = s.pinsAhead.tail.tail := by rw [← List.drop_one, List.drop_tail]
  rw [htwo]
  rfl

end Sys2Proof.Machine
end
